-- ==== Sys2Proof/Word.lean ====
section
/-! DEFINITION. The words of the BX720: the few quantities that the manual treats as bits. Currents, voltages,
counts and durations are whole numbers (R1) and stay `Nat` or `Int`. -/

namespace Sys2Proof

/-- One byte of the drive link or of the configuration block (R156, R176). -/
abbrev Byte := BitVec 8

/-- A count of the 1 ms tick: 32 bits, wrapping from 2^32 - 1 to 0 (R166). -/
abbrev Tick := BitVec 32

/-- A count of crystal cycles: the 1 ms tick count followed by the 13 bits of the cycle within the millisecond
(8,192 cycles to the millisecond, R166). -/
abbrev Instant := BitVec 45

/-- A carrier channel, 0..15 (R2). -/
abbrev Channel := Fin 16

/-- A pilot code or section index, 0..7 (R132, R133). -/
abbrev PilotCode := BitVec 3

/-- A notice's sequence number, 0..15, counted modulo 16 (R16, R30). -/
abbrev SeqNo := BitVec 4

end Sys2Proof
end

