-- ==== Sys2Proof/Config.lean ====
section
/-! DEFINITION. What is fixed for one part: the loaded configuration image (the fields of R176, tabled in Section
11.3), and the free values, which the manual leaves open and the model leaves unconstrained. -/

namespace Sys2Proof.Machine

/-- One section record of the configuration block (R176): pilot code, capacity C, reserve M, accept %, absorb %. -/
structure SectionRecord where
  pilot    : Nat
  capacity : Nat
  reserve  : Nat
  accept   : Nat
  absorb   : Nat
  deriving DecidableEq, Repr

/-- The loaded image: every field of the configuration block (R176), as the unsigned number its bytes form.
The defaults here are blank zeros, not the manual's recommended defaults: they only make `Image.blank`. -/
structure Image where
  stationId      : Nat := 0
  ownChannel     : Channel := 0
  staleLimit     : Nat := 0
  period         : Nat := 0
  sectionCount   : Nat := 0
  guardPercent   : Nat := 0
  rated          : Nat := 0
  soloShare      : Nat := 0
  auxDraw        : Nat := 0
  lossyThreshold : Nat := 0
  recoveryRounds : Nat := 0
  overdrawMargin : Nat := 0
  voltWindow     : Nat := 0
  vCollapse      : Nat := 0
  vFloor         : Nat := 0
  vStart         : Nat := 0
  vTaper         : Nat := 0
  vCut           : Nat := 0
  slewUp         : Nat := 0
  slewDown       : Nat := 0
  slewCut        : Nat := 0
  deadTime       : Nat := 0
  chopperRating  : Nat := 0
  bounceMax      : Nat := 0
  contactClock   : Nat := 0
  arcWarn        : Nat := 0
  arcTrip        : Nat := 0
  raiseTimeout   : Nat := 0
  retractTimeout : Nat := 0
  prechargeTime  : Nat := 0
  reacquireTime  : Nat := 0
  coastMaximum   : Nat := 0
  dischargeTime  : Nat := 0
  upClock        : Nat := 0
  downClock      : Nat := 0
  pilotTimeout   : Nat := 0
  gapMargin      : Nat := 0
  gapGrace       : Nat := 0
  silenceTime    : Nat := 0
  stowTime       : Nat := 0
  /-- The counted section records, 0 to section count - 1: the section table (R176). -/
  sections       : List SectionRecord := []
  deriving DecidableEq, Repr

/-- What the part's blocks read where no image is loaded: all zeros. No block that reads a configuration quantity
acts before READY (R169, R171), and READY has an image. DESIGN CHOICE, log entry 9. -/
def Image.blank : Image := {}

end Sys2Proof.Machine

namespace Sys2Proof

/-- Which of the events that fall due at one moment is taken first: the manual gives the outcome of either order
(R42, R69, R83, R95, R112, R131, R144, R154, R165). A free value, log entry 4. -/
opaque Config.order : Nat → Nat

/-- The alternation run of a context that returns to HUNT on the 13th decision in SYNC: the manual states none
(R10 gives the return, R9 keeps the run in HUNT only). A free value, log entry 6. -/
opaque Config.huntRun : Nat → Nat

/-- How far the tone divider has counted when a notice's first symbol is keyed: not stated (R3). A free value, log
entry 7. -/
opaque Config.dividerCount : Nat → Nat

/-- The carrier output's level when a notice's first symbol is keyed: not stated (R3). A free value, log entry 7. -/
opaque Config.dividerLevel : Nat → Bool

/-- The raw contact level that a RESTART frame end takes where no sender has given it (R113). A free value, log entry
23. -/
opaque Config.rawContact : Nat → Bool

/-- The raw up-limit level that a RESTART frame end takes where no sender has given it (R113). A free value, log entry
23. -/
opaque Config.rawUpLimit : Nat → Bool

/-- The raw down-limit level that a RESTART frame end takes where no sender has given it (R113). A free value, log entry
23. -/
opaque Config.rawDownLimit : Nat → Bool

/-- The converter's code at a conversion's end where no sender has given it (R73, R74). A free value, log entry 23. -/
opaque Config.conversionCode : Nat → BitVec 12

end Sys2Proof
end

