-- ==== Sys2Proof/Syntax.lean ====
section
/-! DEFINITION. The commands of the BX720: one constructor for each row of spec/opcode_table.json, with the data that
the outside supplies with the event. A row without operands is an event whose data the part already holds. -/

namespace Sys2Proof

/-- The three filtered discrete inputs (R116). -/
inductive FilterId where
  | contact
  | upLimit
  | downLimit
  deriving DecidableEq, Repr

/-- The raw levels of the three filtered inputs at one moment (R113). -/
structure RawInputs where
  contact   : Bool
  upLimit   : Bool
  downLimit : Bool
  deriving DecidableEq, Repr

/-- One component of a channel's signal over the 1 ms that a decision examines (R8): the lowest and the highest
frequency it took, in millihertz. -/
structure Component where
  lowest  : Nat
  highest : Nat
  deriving DecidableEq, Repr

/-- A change of what a channel carries: the frequencies above the receiver's detection threshold just before it and just
after it, in millihertz (R8). -/
structure ToneChange where
  channel : Channel
  before  : List Nat
  after   : List Nat
  deriving DecidableEq, Repr

/-- The two moments of a byte's arrival on the drive link (R156). DESIGN CHOICE, log entry 33. -/
inductive ByteMoment where
  /-- Its start bit begins: the line is idle no longer. -/
  | begins
  /-- Its stop bit ends, at the wrong level or not. -/
  | ends (framingError : Bool)
  deriving DecidableEq, Repr

/-- The commands, in the order of spec/opcode_table.json. -/
inductive Instr where
  /-- POWER_ON (R170): the supply is below 2.9 V, or has not been above it for 10 ms. -/
  | powerOn
  /-- PIN_RESET (R170): the reset pin is low; the operand says whether the supply was below 2.9 V at any moment
  while the pin held the part in reset. -/
  | pinReset (supplyDipped : Bool)
  /-- SPI_READ_COMPLETION (R167): the 112 bytes that the read clocked in. -/
  | spiReadCompletion (block : List Byte)
  /-- LOADER_RETRY_EXPIRY (R167). -/
  | loaderRetryExpiry
  /-- READY (R171). -/
  | ready
  /-- RESTART_TIMER_START (R171). -/
  | restartTimerStart
  /-- NOTICE_TIMER_EXPIRY (R17). -/
  | noticeTimerExpiry
  /-- NOTICE_COMPLETION (R20). -/
  | noticeCompletion
  /-- SYNC_ENTRY (R9): the decision on this channel that takes the alternation run to 6. -/
  | syncEntry (ch : Channel)
  /-- FRAME_ABANDON (R11): the NONE decision on this channel in BODY. -/
  | frameAbandon (ch : Channel)
  /-- NOTICE_RECEIVED (R12): the decision on this channel that brings the 64th bit, MARK where `mark` is true. -/
  | noticeReceived (ch : Channel) (mark : Bool)
  /-- SWEEP (R38). -/
  | sweep
  /-- ROUND_COMPLETION (R62). -/
  | roundCompletion
  /-- CONVERSION_PAIR_START (R71). -/
  | conversionPairStart
  /-- VOLTAGE_CONVERSION_COMPLETION (R73): the converter's 12-bit code. -/
  | voltageConversionCompletion (code : BitVec 12)
  /-- CURRENT_CONVERSION_COMPLETION (R74): the converter's 12-bit code. -/
  | currentConversionCompletion (code : BitVec 12)
  /-- CHOPPER_PERIOD_START (R89). -/
  | chopperPeriodStart
  /-- GROUP_START (R111). -/
  | groupStart
  /-- RAMP_STEP (R100). -/
  | rampStep
  /-- CONTACT_LOSS (R121): the contact-filter edge that accepts the loss. -/
  | contactLoss
  /-- CONTACT_RETURN (R119): the contact-filter edge that accepts the return. -/
  | contactReturn
  /-- DOWN_LIMIT (R125): the down-limit-filter edge that accepts the limit. -/
  | downLimit
  /-- RAISE_TIMEOUT (R119). -/
  | raiseTimeout
  /-- PRECHARGE_EXPIRY (R120). -/
  | prechargeExpiry
  /-- REACQUIRE_EXPIRY (R123). -/
  | reacquireExpiry
  /-- COAST_EXPIRY (R124). -/
  | coastExpiry
  /-- DISCHARGE_EXPIRY (R125). -/
  | dischargeExpiry
  /-- RETRACT_TIMEOUT (R125). -/
  | retractTimeout
  /-- RING_ADVANCE (R128). -/
  | ringAdvance
  /-- PILOT_WINDOW_END (R133, R134): whether the component below 5 kHz was above the detection threshold throughout
  the window, and its mean frequency over the window in whole millihertz. -/
  | pilotWindowEnd (aboveThroughout : Bool) (meanMilliHz : Nat)
  /-- REJOIN_EXPIRY (R139). -/
  | rejoinExpiry
  /-- COUNTDOWN_RUN_OUT (R142). -/
  | countdownRunOut
  /-- GRACE_EXPIRY (R142). -/
  | graceExpiry
  /-- DEMAND (R158): the frame end of a DEMAND frame held in the receive buffer. -/
  | demand
  /-- PANTO_RAISE (R126): the frame end of a PANTO frame whose request byte is 1. -/
  | pantoRaise
  /-- PANTO_LOWER (R126): the frame end of a PANTO frame whose request byte is 2. -/
  | pantoLower
  /-- GAP (R140): the frame end of a GAP frame. -/
  | gap
  /-- QUERY (R160): the frame end of a QUERY frame. -/
  | query
  /-- RESTART (R160): the frame end of a RESTART frame, with the raw levels the filters take (R113). -/
  | restart (raw : RawInputs)
  /-- FRAME_DROPPED (R157): the frame end of a frame that is no frame of the rows above. -/
  | frameDropped
  /-- SILENCE_TIMER_EXPIRY (R159). -/
  | silenceTimerExpiry
  /-- STOW_TIMER_EXPIRY (R159). -/
  | stowTimerExpiry
  /-- LIMIT_TIMER_EXPIRY (R162). -/
  | limitTimerExpiry
  /-- TRANSMITTER_FREE (R161). -/
  | transmitterFree
  /-- SYMBOL_STROBE (R20). -/
  | symbolStrobe
  /-- SYMBOL_BOUNDARY (R8): what a channel carries changes at this moment. -/
  | symbolBoundary (change : ToneChange)
  /-- SYMBOL_DECISION (R8): the components that the channel carried over the 1 ms examined: those that were above the
  detection threshold throughout it, and those that were above it for only part of it, which count as not present. -/
  | symbolDecision (ch : Channel) (steady passing : List Component)
  /-- FILTER_EDGE (R116): an edge of one filter's clock, with the raw level sampled. -/
  | filterEdge (input : FilterId) (level : Bool)
  /-- CONTACT_STROBE (R127): the raw contact comparator, true for "contact". -/
  | contactStrobe (contact : Bool)
  /-- CHOPPER_COUNT (R91). -/
  | chopperCount
  /-- PWM_COUNT (R110). -/
  | pwmCount
  /-- BYTE_RECEIVED (R156): the byte whose start bit begins, or whose stop bit ends, so that it is received. -/
  | byteReceived (byte : Byte) (moment : ByteMoment)
  /-- RESET_END (R167): the end of a POWER_ON or PIN reset, with the raw levels the filters take (R113). -/
  | resetEnd (raw : RawInputs)
  /-- PANTO_BAD_VALUE (R160): the frame end of a PANTO frame whose request byte is neither 1 nor 2. -/
  | pantoBadValue
  deriving DecidableEq, Repr

end Sys2Proof
end

