-- ==== Sys2Proof/WellFormed.lean ====
section
/-! DEFINITION. Which commands are well formed. The operand types rule out the rest: a channel is 0..15, an ADC code
has 12 bits, a link byte has 8. -/

namespace Sys2Proof

/-- A read of the configuration block clocks in exactly 112 bytes (R167, R176). -/
def blockLength : Nat := 112

/-- The checks on a command's operands whose types are wider than the manual's ranges: the block that an SPI read
delivers has 112 bytes, and a component's lowest frequency is not above its highest. -/
def Instr.wellFormed : Instr → Bool
  | .spiReadCompletion block => block.length == blockLength
  | .symbolDecision _ steady passing => (steady ++ passing).all (fun c => decide (c.lowest ≤ c.highest))
  | _ => true

end Sys2Proof
end

