-- ==== Sys2Proof/Decode.lean ====
section
/-! DEFINITION. The words of spec/opcode_table.json. No row of this table gives bits (every row's "fields" is empty
and none has "fixed"): the commands are events, not words. The layouts that the manual does give as bits and bytes,
the draw notice, the drive-link frames and the configuration block, stand in Machine/Layout.lean. -/

namespace Sys2Proof

/-- A row of the table that gives its bits: how many there are, which are fixed, their value, and the command. -/
structure BitRow where
  nbits   : Nat
  mask    : Nat
  pattern : Nat
  command : Instr
  deriving DecidableEq, Repr

/-- The rows of spec/opcode_table.json that give bits: there are none. -/
def bitRows : List BitRow := []

/-- The command that a word of `nbits` bits spells by the table's bits; none where no row gives it. -/
def decodeTableWord (nbits w : Nat) : Option Instr :=
  (bitRows.find? (fun r => r.nbits == nbits && (w &&& r.mask) == r.pattern)).map BitRow.command

end Sys2Proof
end

