-- ==== Sys2Proof/Machine/State.lean ====
section
/-! DEFINITION. The state of the BX720, block by block, as plain data: every item the manual's "holds the following
state" tables give (R7, R16, R24, R43, R70, R84, R96, R108, R113, R132, R145, R155, R166, R167), the outputs, the
queue of waiting commands, and the machine right after reset. -/

namespace Sys2Proof.Machine

/-- A timer: stopped, or running with the tick count at which it next expires (R115, R139, R155, R166). -/
abbrev Timer := Option Tick

/-! ## Time base and loader (R166 to R171) -/

/-- TMB: the 32-bit count of the 1 ms tick, and the crystal cycle within the millisecond, 0..8191, from which every
tap is divided (R166). -/
structure Tmb where
  tick  : Tick
  phase : BitVec 13
  deriving DecidableEq, Repr

/-- The loader state (R167). -/
inductive Loader where
  | loading
  | ready
  | halted
  deriving DecidableEq, Repr

/-- The halt reason (R167). -/
inductive HaltReason where
  | noReason
  | crc
  | range
  deriving DecidableEq, Repr

/-- CFL (R167): the loader state, the halt reason, the retry flag and timer, whether a read is in progress, the
loaded image, and the symbol strobe at which a loaded image brings READY (R168). -/
structure Cfl where
  loader     : Loader
  haltReason : HaltReason
  retryFlag  : Bool
  retryTimer : Timer
  reading    : Bool
  image      : Option Image
  readyAt    : Timer
  deriving DecidableEq, Repr

/-! ## Carrier receiver (R7) -/

/-- One symbol decision (R8). -/
inductive Symbol where
  | mark
  | space
  | silent
  deriving DecidableEq, Repr

/-- The state of a reception context (R7). -/
inductive RxState where
  | hunt
  | sync
  | body
  deriving DecidableEq, Repr

/-- One reception context (R7). The bit count is the length of the body record. -/
structure RxContext where
  state     : RxState
  boundary  : Option Instant
  run       : Nat
  window    : List Symbol
  syncCount : Nat
  body      : List Bool
  deriving DecidableEq, Repr

/-- CRX: the sixteen contexts, one per channel, and the end of the pilot window in progress (R7, R133). -/
structure Crx where
  contexts : Vector RxContext 16
  pilotEnd : Timer
  deriving DecidableEq, Repr

/-! ## Notices (R6, R16) -/

/-- The four flags of a notice (R6). -/
structure NoticeFlags where
  guarded  : Bool
  solo     : Bool
  derated  : Bool
  gapArmed : Bool
  deriving DecidableEq, Repr

/-- The eight body fields of a notice, as sent or as received (R6, R173). -/
structure Notice where
  station : BitVec 8
  seq     : SeqNo
  cls     : BitVec 3
  flags   : NoticeFlags
  demand  : BitVec 9
  offer   : BitVec 9
  volts   : BitVec 8
  pilot   : BitVec 3
  deriving DecidableEq, Repr

/-- The transmitter state (R16). -/
inductive TxState where
  | off
  | idle
  | sending
  | muted
  deriving DecidableEq, Repr

/-- The tone divider of R3: the half-period count N+1 in force, how far it has counted, and the output level. -/
structure ToneDivider where
  half  : Nat
  count : Nat
  level : Bool
  deriving DecidableEq, Repr

/-- NTX (R16), with the notice timer (R17), the strobe that ends the symbol being keyed (R20) and the tone divider
(R3). -/
structure Ntx where
  state       : TxState
  seq         : SeqNo
  latch       : Option Notice
  symbolIndex : Nat
  echoSeen    : Bool
  mutePending : Bool
  echoFail    : Nat
  quiet       : Nat
  activity    : Bool
  noticeTimer : Timer
  symbolEnds  : Timer
  divider     : ToneDivider
  deriving DecidableEq, Repr

/-! ## Peer table (R15, R24) -/

/-- The six classes (R6). -/
inductive TruckClass where
  | parked
  | level
  | emptyClimb
  | loadedClimb
  | descent
  | leaving
  deriving DecidableEq, Repr

/-- A primary or contender record (R24). -/
structure PeerRecord where
  station : Nat
  cls     : TruckClass
  flags   : NoticeFlags
  demand  : Nat
  offer   : Nat
  volts   : Nat
  lastSeq : SeqNo
  heardAt : Tick
  deriving DecidableEq, Repr

/-- An entry of the peer table; its key, the channel, is its place in the table (R24). -/
structure PeerEntry where
  primary   : PeerRecord
  tally     : Nat
  contender : Option PeerRecord
  deriving DecidableEq, Repr

/-- PTB: at most one entry for each channel (R25), the sixteen channel error tallies and the foreign-notice tally
(R15), and the sweep timer (R38). -/
structure Ptb where
  slots      : Vector (Option PeerEntry) 16
  errors     : Vector Nat 16
  foreign    : Nat
  sweepTimer : Timer
  deriving DecidableEq, Repr

/-- The state of a record or of an entry, by its age (R26). -/
inductive Freshness where
  | fresh
  | aging
  | stale
  deriving DecidableEq, Repr

/-! ## Confidence (R145) -/

/-- The three confidence levels, in increasing severity (R145). -/
inductive Level where
  | full
  | guarded
  | solo
  deriving DecidableEq, Repr

/-- The seven causes (R146). -/
inductive Cause where
  | clash
  | pilotLost
  | sectionUnknown
  | rejoin
  | lossy
  | voltSuspect
  | overdraw
  deriving DecidableEq, Repr

/-- The cause set: which causes are active (R145). -/
structure Causes where
  clash          : Bool
  pilotLost      : Bool
  sectionUnknown : Bool
  rejoin         : Bool
  lossy          : Bool
  voltSuspect    : Bool
  overdraw       : Bool
  deriving DecidableEq, Repr

/-- CFM (R145). -/
structure Cfm where
  causes   : Causes
  level    : Level
  recovery : Nat
  deriving DecidableEq, Repr

/-! ## Share rounds (R43 to R47) -/

/-- The own demand record (R155). -/
structure OwnRecord where
  cls    : TruckClass
  demand : Nat
  offer  : Nat
  deriving DecidableEq, Repr

/-- A qualifying record in the copy that PTB hands to a round (R36). -/
structure CopyRecord where
  station   : Nat
  cls       : TruckClass
  flags     : NoticeFlags
  demand    : Nat
  offer     : Nat
  volts     : Nat
  freshness : Freshness
  deriving DecidableEq, Repr

/-- An entry in the copy that PTB hands to a round (R36). -/
structure CopyEntry where
  channel   : Channel
  freshness : Freshness
  tally     : Nat
  contested : Bool
  records   : List CopyRecord
  deriving DecidableEq, Repr

/-- The snapshot of a round (R45). -/
structure Snapshot where
  own           : OwnRecord
  sectionIndex  : PilotCode
  sectionKnown  : Bool
  sectionRecord : Option SectionRecord
  level         : Level
  vAvg          : Nat
  peers         : List CopyEntry
  deriving DecidableEq, Repr

/-- One station of a round's station list (R46). -/
structure Station where
  cls    : TruckClass
  demand : Nat
  offer  : Nat
  deriving DecidableEq, Repr

/-- The start tags of a round (R47). -/
structure StartTags where
  sectionIndex : PilotCode
  sectionKnown : Bool
  level        : Level
  deriving DecidableEq, Repr

/-- The round in flight: its snapshot, station list, start tags and mode (R43), and the tick at which it started,
from which its 4 ms run (R62). -/
structure Round where
  snapshot  : Snapshot
  stations  : List Station
  tags      : StartTags
  mode      : Level
  startedAt : Tick
  deriving DecidableEq, Repr

/-- SRE (R43). The two round counts wrap from 255 to 0. -/
structure Sre where
  round     : Option Round
  grant     : Nat
  regen     : Nat
  chopper   : Nat
  derated   : Bool
  published : BitVec 8
  voided    : BitVec 8
  deriving DecidableEq, Repr

/-! ## Measurement (R70) -/

/-- The conversion sequencer (R70): IDLE, or the conversion in flight with the instant at which it began, from which
the bound of R71 runs. -/
inductive AdcState where
  | idle
  | voltage (since : Instant)
  | current (since : Instant)
  deriving DecidableEq, Repr

/-- A sample ring: at most 16 samples, oldest first, and their sum; the count is the list's length (R70, R75). -/
structure Ring where
  samples : List Int
  sum     : Int
  deriving DecidableEq, Repr

/-- MSU (R70). `runsFrom` is the READY or the RESTART after which no pair has begun yet: the first begins at the first
1 ms tick after it (R82, R171). -/
structure Msu where
  adc        : AdcState
  runsFrom   : Option Instant
  voltage    : Ring
  current    : Ring
  vAvg       : Nat
  iAvg       : Int
  overdraw   : Bool
  overSince  : Option Tick
  underSince : Option Tick
  collapse   : Bool
  deriving DecidableEq, Repr

/-! ## Draw ramp and limit reference (R96, R108) -/

/-- A cap of R97: the rated draw Rt, or a limit below it. -/
inductive Cap where
  | rated
  | limit (value : Nat)
  deriving DecidableEq, Repr

/-- The five caps of R97. -/
structure Caps where
  sequencer : Cap
  gap       : Cap
  arc       : Cap
  link      : Cap
  collapse  : Cap
  deriving DecidableEq, Repr

/-- The direction of an episode (R96). -/
inductive Direction where
  | rising
  | falling
  | cutting
  deriving DecidableEq, Repr

/-- One ramp episode (R96). -/
structure Episode where
  dir    : Direction
  target : Nat
  steps  : Nat
  held   : Bool
  deriving DecidableEq, Repr

/-- How an episode ended, or was last recorded (R96). -/
inductive Ending where
  | noEnding
  | completed
  | retargeted
  | held
  | cut
  deriving DecidableEq, Repr

/-- The last ending with its step count (R96). -/
structure LastEnding where
  ending : Ending
  steps  : Nat
  deriving DecidableEq, Repr

/-- DRP (R96), with the ramp step timer (R99). The ramp state is read from the episode and from cut in force
(R107). -/
structure Drp where
  applied   : Nat
  target    : Nat
  caps      : Caps
  hold      : Bool
  cut       : Bool
  episode   : Option Episode
  last      : LastEnding
  stepTimer : Timer
  deriving DecidableEq, Repr

/-- LRG (R108): current and pending code, frame index, count within the period, and the output level. -/
structure Lrg where
  current : Nat
  pending : Option Nat
  frame   : Nat
  count   : Nat
  output  : Bool
  deriving DecidableEq, Repr

/-! ## Brake chopper (R84) -/

/-- BCH (R84). `inPeriod` says whether a period has begun since RUNNING was entered (R93). -/
structure Bch where
  running        : Bool
  regenInForce   : Nat
  chopperInForce : Nat
  inPeriod       : Bool
  count          : Nat
  duty           : Nat
  dumpLength     : Nat
  dump           : Bool
  clamp          : Bool
  deriving DecidableEq, Repr

/-! ## Pantograph sequencer (R113) -/

/-- The ten sequencer states (R113). -/
inductive PsqState where
  | stowed
  | raising
  | precharge
  | engaged
  | cutting
  | dropout
  | gapCoast
  | discharge
  | retracting
  | stuck
  deriving DecidableEq, Repr

/-- An input filter: its accepted level and its previous sample (R113, R116). -/
structure InputFilter where
  accepted : Bool
  previous : Bool
  deriving DecidableEq, Repr

/-- The actuator command; "raise" and "raise held" are the same command (R114). -/
inductive Actuator where
  | idle
  | raise
  | lower
  deriving DecidableEq, Repr

/-- PSQ (R113), with its outputs as they stand (R114). The bounce ring's eight buckets are oldest first; the last is
the current one. -/
structure Psq where
  state      : PsqState
  contact    : InputFilter
  upLimit    : InputFilter
  downLimit  : InputFilter
  stateTimer : Timer
  retry      : Nat
  rawRun     : Nat
  buckets    : List Nat
  arcWarn    : Bool
  ringTimer  : Timer
  contactor  : Bool
  precharge  : Bool
  discharge  : Bool
  actuator   : Actuator
  deriving DecidableEq, Repr

/-! ## Section and gap (R132) -/

/-- The gap phase (R132). -/
inductive GapPhase where
  | disarmed
  | approach
  | cut
  | crossing
  deriving DecidableEq, Repr

/-- The gap countdown (R132). -/
structure Countdown where
  timeToGap : Nat
  loadedAt  : Tick
  deriving DecidableEq, Repr

/-- SGM (R132). The section index and the section-known flag are read from the current code, pilot lost and the
section table. -/
structure Sgm where
  currentCode : Option PilotCode
  lost        : Bool
  candidate   : Option PilotCode
  stability   : Nat
  noneCount   : Nat
  rejoinTimer : Timer
  phase       : GapPhase
  cut         : Bool
  countdown   : Option Countdown
  graceTimer  : Timer
  deriving DecidableEq, Repr

/-! ## Drive link (R155) -/

/-- The receive buffer with its two marks (R155), and what R156 measures the idle line by: whether a byte is on the
line, and the end of the last stop bit of the frame being received. -/
structure RxBuffer where
  bytes     : List Byte
  overlong  : Bool
  byteError : Bool
  receiving : Bool
  lastEnd   : Option Instant
  deriving DecidableEq, Repr

/-- The eight sticky faults (R155). -/
inductive StickyFault where
  | raiseFail
  | prechargeFail
  | arcTrip
  | linkSilent
  | dropoutTimeout
  | stuckUp
  | falseGap
  | idSeenElsewhere
  deriving DecidableEq, Repr

/-- The sticky fault set (R155, R164). -/
structure StickySet where
  raiseFail       : Bool
  prechargeFail   : Bool
  arcTrip         : Bool
  linkSilent      : Bool
  dropoutTimeout  : Bool
  stuckUp         : Bool
  falseGap        : Bool
  idSeenElsewhere : Bool
  deriving DecidableEq, Repr

/-- The reset cause (R155, R170). -/
inductive ResetCause where
  | powerOn
  | pin
  | restart
  deriving DecidableEq, Repr

/-- The refusal reasons (R174). -/
inductive RefuseReason where
  | state
  | unknownType
  | badLength
  | badClass
  | badValue
  deriving DecidableEq, Repr

/-- The ramp state (R107). -/
inductive RampState where
  | steady
  | rising
  | falling
  | held
  | cutting
  deriving DecidableEq, Repr

/-- The contents of a LIMIT frame (R162). -/
structure LimitFrame where
  applied   : Nat
  target    : Nat
  grant     : Nat
  regen     : Nat
  chopper   : Nat
  ramp      : RampState
  sequencer : PsqState
  level     : Level
  vAvg      : Nat
  iAvg      : Int
  collapse  : Bool
  deriving DecidableEq, Repr

/-- The contents of a STATUS frame (R163), with the two that are taken with them and have no byte in the frame: the PSQ
state (R117) and the level (R145). DESIGN CHOICE, log entry 31. -/
structure StatusFrame where
  resetCause     : ResetCause
  loader         : Loader
  haltReason     : HaltReason
  causes         : Causes
  sticky         : StickySet
  sectionKnown   : Bool
  sectionIndex   : PilotCode
  entryCount     : Nat
  contestedCount : Nat
  reducedCount   : Nat
  deratedCount   : Nat
  errorSum       : Nat
  foreign        : Nat
  transmitter    : TxState
  ownSeq         : SeqNo
  dropped        : Nat
  published      : BitVec 8
  voided         : BitVec 8
  last           : LastEnding
  sequencer      : PsqState
  level          : Level
  deriving DecidableEq, Repr

/-- The three outbound frames (R161). -/
inductive OutFrame where
  | limit (frame : LimitFrame)
  | status (frame : StatusFrame)
  | refuse (frameType : Byte) (reason : RefuseReason)
  deriving DecidableEq, Repr

/-- The frame being sent, with the instants at which its first start bit began and its last CRC byte ends (R161,
R166). -/
structure Sending where
  frame     : OutFrame
  startedAt : Instant
  endsAt    : Instant
  deriving DecidableEq, Repr

/-- DLK (R155). The transmitter is IDLE while `sending` is absent. The refusal queue holds REFUSE frames, oldest
first. -/
structure Dlk where
  rx            : RxBuffer
  own           : OwnRecord
  silence       : Bool
  stow          : Bool
  silenceTimer  : Timer
  stowTimer     : Timer
  sticky        : StickySet
  dropped       : Nat
  resetCause    : ResetCause
  limitTimer    : Timer
  limitBuffer   : Option LimitFrame
  refusals      : List (Byte × RefuseReason)
  statusPending : Bool
  sending       : Option Sending
  deriving DecidableEq, Repr

/-! ## The machine -/

/-- The state of the part. `held` says that a POWER_ON or PIN reset is being held (R170); `startAt` is the symbol
strobe at which a RESTART's timers start (R171). `pending` and `fresh` are the model's own: the queue of waiting
commands, and the counter that free values are drawn at. DESIGN CHOICE, log entry 26. -/
structure State where
  held    : Bool
  startAt : Timer
  tmb     : Tmb
  cfl     : Cfl
  crx     : Crx
  ntx     : Ntx
  ptb     : Ptb
  sre     : Sre
  cfm     : Cfm
  msu     : Msu
  drp     : Drp
  lrg     : Lrg
  bch     : Bch
  psq     : Psq
  sgm     : Sgm
  dlk     : Dlk
  fresh   : Nat
  pending : List Instr
  deriving DecidableEq, Repr

/-- Why the machine stops with a fault: it never does. The manual gives no event after which the part stops acting
(HALTED is a state, R169), so there is no constructor and nothing raises one. Safe. -/
inductive Fault where
  deriving DecidableEq, Repr

/-- Why a command has no meaning. -/
inductive Refusal where
  /-- Raised by an arm of `exec` whose command has no meaning yet. Safe: the machine stops. No arm raises it now. -/
  | notModelled (mnemonic : String)
  deriving DecidableEq, Repr

/-! ## Reset values -/

/-- A reception context after any reset (R7). -/
def RxContext.atReset : RxContext :=
  { state := .hunt, boundary := none, run := 0, window := [], syncCount := 0, body := [] }

/-- CRX after any reset (R7, R133). -/
def Crx.atReset : Crx := { contexts := Vector.replicate 16 RxContext.atReset, pilotEnd := none }

/-- NTX after any reset, but for its state: OFF after POWER_ON and PIN, IDLE after RESTART (R16). The tone divider's
values: DESIGN CHOICE, log entry 27. -/
def Ntx.atReset (state : TxState) : Ntx :=
  { state := state, seq := 0, latch := none, symbolIndex := 0, echoSeen := false, mutePending := false,
    echoFail := 0, quiet := 0, activity := false, noticeTimer := none, symbolEnds := none,
    divider := { half := 0, count := 0, level := false } }

/-- PTB after any reset (R15, R41). -/
def Ptb.atReset : Ptb :=
  { slots := Vector.replicate 16 none, errors := Vector.replicate 16 0, foreign := 0, sweepTimer := none }

/-- SRE after any reset (R43). -/
def Sre.atReset : Sre :=
  { round := none, grant := 0, regen := 0, chopper := 0, derated := false, published := 0, voided := 0 }

/-- CFM after any reset (R145). -/
def Cfm.atReset : Cfm :=
  { causes := { clash := false, pilotLost := true, sectionUnknown := false, rejoin := false, lossy := false,
                voltSuspect := false, overdraw := false },
    level := .solo, recovery := 0 }

/-- MSU after any reset (R70). -/
def Msu.atReset : Msu :=
  { adc := .idle, runsFrom := none, voltage := { samples := [], sum := 0 }, current := { samples := [], sum := 0 }, vAvg := 0,
    iAvg := 0, overdraw := false, overSince := none, underSince := none, collapse := true }

/-- DRP after any reset (R96). -/
def Drp.atReset : Drp :=
  { applied := 0, target := 0,
    caps := { sequencer := .limit 0, gap := .rated, arc := .rated, link := .limit 0, collapse := .limit 0 },
    hold := false, cut := false, episode := none, last := { ending := .noEnding, steps := 0 }, stepTimer := none }

/-- LRG after any reset (R108). The count's value: DESIGN CHOICE, log entry 27. -/
def Lrg.atReset : Lrg := { current := 0, pending := none, frame := 0, count := 0, output := false }

/-- BCH after any reset (R84). -/
def Bch.atReset : Bch :=
  { running := false, regenInForce := 0, chopperInForce := 0, inPeriod := false, count := 0, duty := 0,
    dumpLength := 0, dump := false, clamp := false }

/-- A filter that takes a raw level as both its accepted level and its previous sample (R113). -/
def InputFilter.taking (level : Bool) : InputFilter := { accepted := level, previous := level }

/-- PSQ after any reset, with the raw levels that its filters take and its ring advance timer (R113). -/
def Psq.atReset (raw : RawInputs) (ringTimer : Timer) : Psq :=
  { state := .stowed, contact := .taking raw.contact, upLimit := .taking raw.upLimit,
    downLimit := .taking raw.downLimit, stateTimer := none, retry := 0, rawRun := 0,
    buckets := List.replicate 8 0, arcWarn := false, ringTimer := ringTimer, contactor := false,
    precharge := false, discharge := false, actuator := .idle }

/-- SGM after any reset (R132). -/
def Sgm.atReset : Sgm :=
  { currentCode := none, lost := true, candidate := none, stability := 0, noneCount := 0, rejoinTimer := none,
    phase := .disarmed, cut := false, countdown := none, graceTimer := none }

/-- The empty receive buffer, both marks clear (R155), with no byte on the line. DESIGN CHOICE, log entry 26. -/
def RxBuffer.empty : RxBuffer :=
  { bytes := [], overlong := false, byteError := false, receiving := false, lastEnd := none }

/-- The empty sticky fault set (R155). -/
def StickySet.empty : StickySet :=
  { raiseFail := false, prechargeFail := false, arcTrip := false, linkSilent := false, dropoutTimeout := false,
    stuckUp := false, falseGap := false, idSeenElsewhere := false }

/-- DLK after a reset of the given cause; STATUS pending is set after RESTART only (R155). -/
def Dlk.atReset (cause : ResetCause) : Dlk :=
  { rx := .empty, own := { cls := .parked, demand := 0, offer := 0 }, silence := true, stow := true,
    silenceTimer := none, stowTimer := none, sticky := .empty, dropped := 0, resetCause := cause,
    limitTimer := none, limitBuffer := none, refusals := [], statusPending := decide (cause = .restart),
    sending := none }

/-- CFL while a POWER_ON or PIN reset is held: a load in progress is over, and no image is held (R167). -/
def Cfl.atReset : Cfl :=
  { loader := .loading, haltReason := .noReason, retryFlag := false, retryTimer := none, reading := false,
    image := none, readyAt := none }

/-- The part while a POWER_ON or PIN reset is held, every block at its reset values. The filters' levels are taken
at the end of the reset, and the tick count is 0 there (R113, R166); until then the model holds false and 0 (log
entry 10). The queue and the model's counter are none of the part's state and are kept. -/
def State.heldInReset (cause : ResetCause) (fresh : Nat) (pending : List Instr) : State :=
  { held := true, startAt := none, tmb := { tick := 0, phase := 0 }, cfl := .atReset, crx := .atReset,
    ntx := .atReset .off, ptb := .atReset, sre := .atReset, cfm := .atReset, msu := .atReset, drp := .atReset,
    lrg := .atReset, bch := .atReset,
    psq := .atReset { contact := false, upLimit := false, downLimit := false } none,
    sgm := .atReset, dlk := .atReset cause, fresh := fresh, pending := pending }

/-- The machine right after reset: the values of a POWER_ON reset, which the supply supervisor still holds (R170),
and an empty queue. RESET_END is the event that ends it. -/
def State.reset : State := .heldInReset .powerOn 0 []

end Sys2Proof.Machine
end

