-- ==== Sys2Proof/Machine/Ops.lean ====
section
/-! DEFINITION. The operations that several blocks share: time and timers, the loaded image, free values, the causes
and the confidence level, the sticky faults, STATUS triggers, the section identity, and the age of a record. -/

namespace Sys2Proof.Machine

/-! ## Time (R166) -/

/-- The count of the latest 1 ms tick at or before this event (R166). -/
def State.now (s : State) : Tick := s.tmb.tick

/-- This moment in crystal cycles (R166). -/
def Tmb.instant (t : Tmb) : Instant := t.tick ++ t.phase

/-- This moment in crystal cycles (R166). -/
def State.instant (s : State) : Instant := s.tmb.instant

/-- The time from `since` to `now`, modulo the count's range (R166). -/
def elapsed (now since : Tick) : Nat := (now - since).toNat

/-- Whether the moment `due` has come: it is not ahead of `now`, on the count's circle (R166; DESIGN CHOICE, log entry
5). -/
def reached {w : Nat} (now due : BitVec w) : Bool := decide ((now - due).toNat < 2 ^ (w - 1))

/-- A timer of `duration` ms started at an event expires at the tick whose count is `duration` more than that of the
latest tick at or before the event (R166). -/
def Timer.start (now : Tick) (duration : Nat) : Timer := some (now + BitVec.ofNat 32 duration)

/-- Whether a timer runs and its expiry tick has come. -/
def Timer.due (t : Timer) (now : Tick) : Bool :=
  match t with
  | none => false
  | some expiry => reached now expiry

/-- A periodic timer that has expired expires again one period later (R166). -/
def Timer.reload (t : Timer) (period : Nat) : Timer := t.map (· + BitVec.ofNat 32 period)

/-- Whether this moment is a tap of `cycles` crystal cycles: the chopper count (32), the contact strobe (512), the
limit-reference group (1024) (R108, R166). -/
def Tmb.onTap (t : Tmb) (cycles : Nat) : Bool := t.phase.toNat % cycles == 0

/-- Whether this moment is a 1 ms tick (R166). -/
def Tmb.onTick (t : Tmb) : Bool := t.phase == 0

/-- The tick of the symbol strobe at or next after this moment: the strobes fall on the even counts (R166). -/
def Tmb.strobe (t : Tmb) : Tick :=
  if t.tick.toNat % 2 = 1 then t.tick + 1 else if t.phase = 0 then t.tick else t.tick + 2

/-- The loaded image (R168). -/
def State.cfg (s : State) : Image := s.cfl.image.getD .blank

/-- Whether the loader is READY (R167). -/
def State.isReady (s : State) : Bool := s.cfl.loader == .ready

/-- Put a new PSQ in place. -/
def State.withPsq (s : State) (p : Psq) : State := { s with psq := p }

/-- Put a new SGM in place. -/
def State.withSgm (s : State) (g : Sgm) : State := { s with sgm := g }

/-- Put a new TMB in place. -/
def State.withTmb (s : State) (t : Tmb) : State := { s with tmb := t }

/-- The model's counter after one free value is taken at it: each is a Config constant at a new number. -/
def State.drawn (s : State) : State := { s with fresh := s.fresh + 1 }

/-! ## Requests that blocks make of DLK (R163, R164) -/

/-- Put a fault in a sticky fault set (R164). -/
def StickySet.put (set : StickySet) : StickyFault → StickySet
  | .raiseFail => { set with raiseFail := true }
  | .prechargeFail => { set with prechargeFail := true }
  | .arcTrip => { set with arcTrip := true }
  | .linkSilent => { set with linkSilent := true }
  | .dropoutTimeout => { set with dropoutTimeout := true }
  | .stuckUp => { set with stuckUp := true }
  | .falseGap => { set with falseGap := true }
  | .idSeenElsewhere => { set with idSeenElsewhere := true }

/-- Whether a sticky fault set holds a fault (R164). -/
def StickySet.has (set : StickySet) : StickyFault → Bool
  | .raiseFail => set.raiseFail
  | .prechargeFail => set.prechargeFail
  | .arcTrip => set.arcTrip
  | .linkSilent => set.linkSilent
  | .dropoutTimeout => set.dropoutTimeout
  | .stuckUp => set.stuckUp
  | .falseGap => set.falseGap
  | .idSeenElsewhere => set.idSeenElsewhere

/-- A request to set a sticky fault (R164). -/
def State.setSticky (s : State) (f : StickyFault) : State :=
  { s with dlk := { s.dlk with sticky := s.dlk.sticky.put f } }

/-- A STATUS trigger (R163). -/
def State.triggerStatus (s : State) : State := { s with dlk := { s.dlk with statusPending := true } }

/-- A STATUS trigger where a condition holds (R163). -/
def State.triggerStatusIf (s : State) (changed : Bool) : State := if changed then s.triggerStatus else s

/-- Add one to a saturating count (R1). -/
def saturate (most n : Nat) : Nat := min most (n + 1)

/-! ## Causes and the confidence level (R146 to R149) -/

/-- Set or clear one cause (R146). -/
def Causes.put (set : Causes) (active : Bool) : Cause → Causes
  | .clash => { set with clash := active }
  | .pilotLost => { set with pilotLost := active }
  | .sectionUnknown => { set with sectionUnknown := active }
  | .rejoin => { set with rejoin := active }
  | .lossy => { set with lossy := active }
  | .voltSuspect => { set with voltSuspect := active }
  | .overdraw => { set with overdraw := active }

/-- Whether a cause is active (R145). -/
def Causes.has (set : Causes) : Cause → Bool
  | .clash => set.clash
  | .pilotLost => set.pilotLost
  | .sectionUnknown => set.sectionUnknown
  | .rejoin => set.rejoin
  | .lossy => set.lossy
  | .voltSuspect => set.voltSuspect
  | .overdraw => set.overdraw

/-- The required level: the most severe that any active cause requires (R146). -/
def Causes.required (set : Causes) : Level :=
  if set.clash || set.pilotLost || set.sectionUnknown || set.rejoin then .solo
  else if set.lossy || set.voltSuspect || set.overdraw then .guarded
  else .full

/-- The levels in increasing severity: FULL 0, GUARDED 1, SOLO 2 (R145, R175). -/
def Level.severity : Level → Nat
  | .full => 0
  | .guarded => 1
  | .solo => 2

/-- One step up: from SOLO to GUARDED or from GUARDED to FULL (R148). -/
def Level.stepUp : Level → Level
  | .solo => .guarded
  | .guarded => .full
  | .full => .full

/-- CFM's raise of a cause: the level drops at once to a more severe required level, with the recovery count at 0
(R147). -/
def Cfm.raise (m : Cfm) (c : Cause) : Cfm :=
  let causes := m.causes.put true c
  if m.level.severity < causes.required.severity then { causes := causes, level := causes.required, recovery := 0 }
  else { m with causes := causes }

/-- CFM's clear of a cause leaves the level and the recovery count (R149). -/
def Cfm.clear (m : Cfm) (c : Cause) : Cfm := { m with causes := m.causes.put false c }

/-- CFM at a publication notice (R148). -/
def Cfm.publication (m : Cfm) (recoveryRounds : Nat) : Cfm :=
  if m.causes.required.severity < m.level.severity then
    if m.recovery + 1 = recoveryRounds then { m with level := m.level.stepUp, recovery := 0 }
    else { m with recovery := m.recovery + 1 }
  else if m.causes.required = m.level then { m with recovery := 0 }
  else m

/-- Put a new CFM in place; a change of the level is a STATUS trigger (R163). -/
def State.withCfm (s : State) (m : Cfm) : State :=
  { s with cfm := m }.triggerStatusIf (decide (m.level ≠ s.cfm.level))

/-- A raise request (R147). -/
def State.raiseCause (s : State) (c : Cause) : State := s.withCfm (s.cfm.raise c)

/-- A clear request (R149). -/
def State.clearCause (s : State) (c : Cause) : State := s.withCfm (s.cfm.clear c)

/-- SRE's report of a cause as active or cleared (R66, R67). -/
def State.reportCause (s : State) (c : Cause) (active : Bool) : State :=
  if active then s.raiseCause c else s.clearCause c

/-! ## Section identity (R132) -/

/-- The section record of the image's table with this pilot code, if any (R132). -/
def Image.sectionOf (img : Image) (code : PilotCode) : Option SectionRecord :=
  img.sections.find? (fun r => r.pilot == code.toNat)

/-- The section index: the current code, or 0 while it is absent (R132). -/
def State.sectionIndex (s : State) : PilotCode := s.sgm.currentCode.getD 0

/-- The section-known flag: the current code is present, the section table has a record of it, and pilot lost is
false (R132). -/
def State.sectionKnown (s : State) : Bool :=
  match s.sgm.currentCode with
  | none => false
  | some code => (s.cfg.sectionOf code).isSome && !s.sgm.lost

/-- The current section record, while the section is known (R132). -/
def State.currentSection (s : State) : Option SectionRecord :=
  if s.sectionKnown then s.cfg.sectionOf s.sectionIndex else none

/-- The gap is armed in every phase but DISARMED (R132). -/
def Sgm.armed (g : Sgm) : Bool := g.phase != .disarmed

/-! ## Ages (R26, R27) -/

/-- The age of a record heard at `heardAt`, in notice periods (R26). -/
def ageOf (now heardAt : Tick) (period : Nat) : Nat := elapsed now heardAt / period

/-- The state that an age gives (R26). -/
def Freshness.ofAge (staleLimit age : Nat) : Freshness :=
  if age < 2 then .fresh else if age < staleLimit then .aging else .stale

/-- The age of a record (R26). -/
def PeerRecord.age (r : PeerRecord) (img : Image) (now : Tick) : Nat := ageOf now r.heardAt img.period

/-- The state of a record (R26). -/
def PeerRecord.freshness (r : PeerRecord) (img : Image) (now : Tick) : Freshness :=
  .ofAge img.staleLimit (r.age img now)

/-- The age of an entry: that of whichever of its records was heard more recently (R27). -/
def PeerEntry.age (e : PeerEntry) (img : Image) (now : Tick) : Nat :=
  match e.contender with
  | none => e.primary.age img now
  | some c => min (e.primary.age img now) (c.age img now)

/-- The state of an entry (R27). -/
def PeerEntry.freshness (e : PeerEntry) (img : Image) (now : Tick) : Freshness :=
  .ofAge img.staleLimit (e.age img now)

/-- The records of an entry, the primary first and then the contender (R36). -/
def PeerEntry.records (e : PeerEntry) : List PeerRecord := e.primary :: e.contender.toList

/-- The entries of the table with their channels, in ascending channel order (R36). -/
def Ptb.entries (p : Ptb) : List (Channel × PeerEntry) :=
  (List.finRange 16).filterMap (fun ch => (p.slots[ch]).map (fun e => (ch, e)))

end Sys2Proof.Machine
end

