-- ==== Sys2Proof/Machine/Flags.lean ====
section
/-! DEFINITION. The state and set fields that the part reports, and their encodings (R107, R173, R175). -/

namespace Sys2Proof.Machine

/-- The ramp state that DRP reports (R107). -/
def Drp.rampState (d : Drp) : RampState :=
  if d.cut then .cutting
  else match d.episode with
    | none => .steady
    | some e => match e.dir with
      | .rising => if e.held then .held else .rising
      | .falling => .falling
      | .cutting => .steady

/-- The flags that NTX latches: the confidence level, the derated indication and the gap state (R19). -/
def NoticeFlags.own (level : Level) (derated gapArmed : Bool) : NoticeFlags :=
  { guarded := level == .guarded, solo := level == .solo, derated := derated, gapArmed := gapArmed }

/-- The class values of R6 and R173. -/
def TruckClass.code : TruckClass → Nat
  | .parked => 0
  | .level => 1
  | .emptyClimb => 2
  | .loadedClimb => 3
  | .descent => 4
  | .leaving => 5

/-- The class of a class value; 6 and above are no class (R12, R158). -/
def TruckClass.ofCode : Nat → Option TruckClass
  | 0 => some .parked
  | 1 => some .level
  | 2 => some .emptyClimb
  | 3 => some .loadedClimb
  | 4 => some .descent
  | 5 => some .leaving
  | _ => none

/-- The number whose bits, from bit 0 upward, are these (R175). -/
def bitsFrom0 : List Bool → Nat
  | [] => 0
  | b :: bs => b.toNat + 2 * bitsFrom0 bs

/-- The cause set byte (R175). -/
def Causes.byte (c : Causes) : Nat :=
  bitsFrom0 [c.clash, c.pilotLost, c.sectionUnknown, c.rejoin, c.lossy, c.voltSuspect, c.overdraw]

/-- The sticky faults byte (R175). -/
def StickySet.byte (f : StickySet) : Nat :=
  bitsFrom0 [f.raiseFail, f.prechargeFail, f.arcTrip, f.linkSilent, f.dropoutTimeout, f.stuckUp, f.falseGap,
    f.idSeenElsewhere]

/-- Ramp state codes (R175). -/
def RampState.code : RampState → Nat
  | .steady => 0
  | .rising => 1
  | .falling => 2
  | .held => 3
  | .cutting => 4

/-- PSQ state codes (R175). -/
def PsqState.code : PsqState → Nat
  | .stowed => 0
  | .raising => 1
  | .precharge => 2
  | .engaged => 3
  | .cutting => 4
  | .dropout => 5
  | .gapCoast => 6
  | .discharge => 7
  | .retracting => 8
  | .stuck => 9

/-- Reset cause codes (R175). -/
def ResetCause.code : ResetCause → Nat
  | .powerOn => 1
  | .pin => 2
  | .restart => 3

/-- Loader codes, for the upper four bits of the loader byte (R175). -/
def Loader.code : Loader → Nat
  | .loading => 0
  | .ready => 1
  | .halted => 2

/-- Halt reason codes, for the lower four bits of the loader byte (R175). -/
def HaltReason.code : HaltReason → Nat
  | .noReason => 0
  | .crc => 1
  | .range => 2

/-- Transmitter codes, for the upper four bits of the transmitter byte (R175). -/
def TxState.code : TxState → Nat
  | .off => 0
  | .idle => 1
  | .sending => 2
  | .muted => 3

/-- Last ramp ending codes (R175). -/
def Ending.code : Ending → Nat
  | .noEnding => 0
  | .completed => 1
  | .retargeted => 2
  | .held => 3
  | .cut => 4

/-- Reason codes of REFUSE (R174). -/
def RefuseReason.code : RefuseReason → Nat
  | .state => 1
  | .unknownType => 2
  | .badLength => 3
  | .badClass => 4
  | .badValue => 5

end Sys2Proof.Machine
end

