-- ==== Sys2Proof/Machine/Operands.lean ====
section
/-! DEFINITION. What the data that comes with an event means: tone content, pilot window, converter codes, the bytes
of a frame or of the configuration block, and the clamps (R8, R73, R74, R133, R160, R172). -/

namespace Sys2Proof.Machine

/-! ## Carrier plan (R2, R3) -/

/-- The space tone of a channel, in Hz (R2). -/
def spaceTone (ch : Channel) : Nat := 60000 + 4000 * ch.val

/-- The mark tone of a channel, 2,000 Hz above its space tone (R2). -/
def markTone (ch : Channel) : Nat := spaceTone ch + 2000

/-- The half-period count N+1 of a tone: 65,536,000 / (2 f), rounded, halves up (R3). -/
def halfPeriod (tone : Nat) : Nat := (65536000 + tone) / (2 * tone)

/-- The tone of a keyed symbol (R4). -/
def symbolTone (ch : Channel) (mark : Bool) : Nat := if mark then markTone ch else spaceTone ch

/-! ## Tones, decisions and windows (R2, R8, R133) -/

/-- The receiver accepts a frequency, in millihertz, as a tone within 500 Hz of its nominal frequency (R2). -/
def accepts (tone milliHz : Nat) : Bool :=
  decide (1000 * tone ≤ milliHz + 500000) && decide (milliHz ≤ 1000 * tone + 500000)

/-- Whether a tone was present over the 1 ms examined: among the components above the threshold throughout, one that
never left the tone's accepted band (R8). -/
def tonePresent (steady : List Component) (tone : Nat) : Bool :=
  steady.any (fun c => accepts tone c.lowest && accepts tone c.highest)

/-- A symbol decision: MARK if the mark tone alone is present, SPACE if the space tone alone is, NONE if neither or
both are (R8). -/
def Symbol.ofTones : (markPresent spacePresent : Bool) → Symbol
  | true, false => .mark
  | false, true => .space
  | _, _ => .silent

/-- The decision on a channel from the components that were above the threshold throughout the 1 ms examined (R8). -/
def Symbol.ofComponents (ch : Channel) (steady : List Component) : Symbol :=
  .ofTones (tonePresent steady (markTone ch)) (tonePresent steady (spaceTone ch))

/-- A channel's tone content at one moment, from the frequencies that it carries above the threshold: mark, space or
none; both tones at once are none, as in a decision (R8). DEDUCED, log entry 34. -/
def Symbol.contentOf (ch : Channel) (frequencies : List Nat) : Symbol :=
  .ofTones (frequencies.any (accepts (markTone ch))) (frequencies.any (accepts (spaceTone ch)))

/-- Whether a change of the frequencies that a channel carries is one of its tone content (R8). -/
def contentChanges (change : ToneChange) : Bool :=
  decide (Symbol.contentOf change.channel change.before ≠ .contentOf change.channel change.after)

/-- The decision that stands for a bit (R11). -/
def Symbol.ofBit (mark : Bool) : Symbol := if mark then .mark else .space

/-- What a pilot window yields: code p where the component was above the threshold throughout and its mean frequency
lies within 60 Hz of 1,500 + 250 p Hz, and none otherwise (R133). -/
def pilotCodeOf (aboveThroughout : Bool) (meanMilliHz : Nat) : Option PilotCode :=
  if aboveThroughout then
    ((List.range 8).find? (fun p =>
      decide (1440000 + 250000 * p ≤ meanMilliHz) && decide (meanMilliHz ≤ 1560000 + 250000 * p))).map
        (BitVec.ofNat 3)
  else none

/-! ## Converter codes (R73, R74) -/

/-- A voltage code in volts (R73). -/
def voltsOfCode (code : BitVec 12) : Nat := code.toNat * 3000 / 4096

/-- A current code in DU; the division rounds toward minus infinity (R74). -/
def currentOfCode (code : BitVec 12) : Int := ((code.toNat : Int) - 2048) * 400 / 2048

/-! ## Bytes and bits (R172) -/

/-- The bits of a number, most significant first (R172). -/
def bitsMsb : (width : Nat) → Nat → List Bool
  | 0, _ => []
  | w + 1, n => n.testBit w :: bitsMsb w n

/-- The number that bits form, most significant first (R172, R173). -/
def numberMsb (bits : List Bool) : Nat := bits.foldl (fun n b => 2 * n + b.toNat) 0

/-- The bytes of a number, most significant first (R172). -/
def bytesMsb : (count : Nat) → Nat → List Byte
  | 0, _ => []
  | c + 1, n => BitVec.ofNat 8 (n / 256 ^ c) :: bytesMsb c n

/-- The number that bytes form, most significant first (R172, R176). -/
def numberOfBytes (bytes : List Byte) : Nat := bytes.foldl (fun n b => 256 * n + b.toNat) 0

/-- The bits of bytes, each byte most significant bit first (R172). -/
def bitsOfBytes (bytes : List Byte) : List Bool := bytes.flatMap (fun b => bitsMsb 8 b.toNat)

/-- `count` items of a list from place `start` on. -/
def slice {α : Type} (items : List α) (start count : Nat) : List α := (items.drop start).take count

/-! ## Clamps (R6, R158, R160) -/

/-- The clamp that PTB puts on a heard demand or offer (R6, R24). -/
def heardClamp : Nat := 400

/-- The distance of a GAP frame, clamped down to 2,000 m (R160). -/
def gapDistance (metres : Nat) : Nat := min metres 2000

/-- The speed of a GAP frame in 0.1 m/s, clamped up to 5 and down to 300 (R160). -/
def gapSpeed (speed : Nat) : Nat := min (max speed 5) 300

end Sys2Proof.Machine
end

