-- ==== Sys2Proof/Machine/Layout.lean ====
section
/-! DEFINITION. Frame and record layouts (R5, R172 to R176) and the loader's field checks (R168): the check, the draw
notice, the drive-link frames and the configuration block. -/

namespace Sys2Proof.Machine

/-! ## The check (R172) -/

/-- One input bit of the CRC-16 (R172). -/
def crcBit (register : BitVec 16) (bit : Bool) : BitVec 16 :=
  let shifted := register <<< 1
  if register.msb != bit then shifted ^^^ 0x1021#16 else shifted

/-- The CRC-16 of a sequence of bits (R172). -/
def crcOfBits (bits : List Bool) : BitVec 16 := bits.foldl crcBit 0xFFFF#16

/-- The CRC-16 of bytes, the bits of each most significant first (R172). -/
def crcOfBytes (bytes : List Byte) : BitVec 16 := crcOfBits (bitsOfBytes bytes)

/-! ## The draw notice (R5, R173) -/

/-- The preamble of a notice, symbols 0..7 (R5). -/
def preamble : List Bool := [true, false, true, false, true, false, true, false]

/-- The sync pattern of a notice, symbols 8..15 (R5). -/
def syncPattern : List Bool := [true, false, true, true, false, true, false, false]

/-- The 48 body bits of a notice (R173). -/
def Notice.body (n : Notice) : List Bool :=
  bitsMsb 8 n.station.toNat ++ bitsMsb 4 n.seq.toNat ++ bitsMsb 3 n.cls.toNat ++
    [n.flags.guarded, n.flags.solo, n.flags.derated, n.flags.gapArmed] ++
    bitsMsb 9 n.demand.toNat ++ bitsMsb 9 n.offer.toNat ++ bitsMsb 8 n.volts.toNat ++ bitsMsb 3 n.pilot.toNat

/-- The notice whose body bits these are, each field the unsigned number formed by its bits (R173). -/
def Notice.ofBody (bits : List Bool) : Notice :=
  { station := BitVec.ofNat 8 (numberMsb (slice bits 0 8)),
    seq := BitVec.ofNat 4 (numberMsb (slice bits 8 4)),
    cls := BitVec.ofNat 3 (numberMsb (slice bits 12 3)),
    flags := { guarded := bits.getD 15 false, solo := bits.getD 16 false, derated := bits.getD 17 false,
               gapArmed := bits.getD 18 false },
    demand := BitVec.ofNat 9 (numberMsb (slice bits 19 9)),
    offer := BitVec.ofNat 9 (numberMsb (slice bits 28 9)),
    volts := BitVec.ofNat 8 (numberMsb (slice bits 37 8)),
    pilot := BitVec.ofNat 3 (numberMsb (slice bits 45 3)) }

/-- The body and check bits of a notice, symbols 16..79 (R5). -/
def Notice.record (n : Notice) : List Bool := n.body ++ bitsMsb 16 (crcOfBits n.body).toNat

/-- The 80 symbols of a notice frame, MARK where true (R5). -/
def Notice.frame (n : Notice) : List Bool := preamble ++ syncPattern ++ n.record

/-- The CRC test on 64 body and check bits (R12). -/
def recordCrcAgrees (bits : List Bool) : Bool :=
  (crcOfBits (bits.take 48)).toNat == numberMsb (slice bits 48 16)

/-- The two field tests on a received notice (R12). -/
def Notice.fieldsPass (n : Notice) : Bool :=
  n.station != 0 && n.station != 255 && (TruckClass.ofCode n.cls.toNat).isSome

/-! ## Drive-link frames (R174, R175) -/

/-- The type codes (R174). -/
def typeDemand : Byte := 17
/-- PANTO (R174). -/
def typePanto : Byte := 18
/-- GAP (R174). -/
def typeGap : Byte := 19
/-- QUERY (R174). -/
def typeQuery : Byte := 20
/-- RESTART (R174). -/
def typeRestart : Byte := 21
/-- LIMIT (R174). -/
def typeLimit : Byte := 33
/-- STATUS (R174). -/
def typeStatus : Byte := 34
/-- REFUSE (R174). -/
def typeRefuse : Byte := 35

/-- A frame as its bytes: type, length, payload and check (R174). -/
def frameBytes (frameType : Byte) (payload : List Byte) : List Byte :=
  let covered := frameType :: BitVec.ofNat 8 payload.length :: payload
  covered ++ bytesMsb 2 (crcOfBytes covered).toNat

/-- The payload length that an inbound type requires; none for a type that DLK does not take (R157). -/
def requiredLength (frameType : Byte) : Option Nat :=
  if frameType = typeDemand then some 5
  else if frameType = typePanto then some 1
  else if frameType = typeGap then some 4
  else if frameType = typeQuery then some 0
  else if frameType = typeRestart then some 0
  else none

/-- The frame in a receive buffer, as its type byte and payload, where the first three checks of R157 pass. -/
def RxBuffer.frame (rx : RxBuffer) : Option (Byte × List Byte) :=
  match rx.bytes with
  | frameType :: len :: rest =>
    if rest.length < 2 || rx.overlong || rx.byteError then none
    else
      let payload := rest.take (rest.length - 2)
      if (crcOfBytes (frameType :: len :: payload)).toNat = numberOfBytes (rest.drop (rest.length - 2))
          ∧ len.toNat = payload.length then some (frameType, payload) else none
  | _ => none

/-- Two's complement in 16 bits (R175). -/
def signed16 (n : Int) : Nat := (BitVec.ofInt 16 n).toNat

/-- The payload of a LIMIT frame (R174). -/
def LimitFrame.payload (f : LimitFrame) : List Byte :=
  bytesMsb 2 f.applied ++ bytesMsb 2 f.target ++ bytesMsb 2 f.grant ++ bytesMsb 2 f.regen ++
    bytesMsb 2 f.chopper ++ bytesMsb 1 f.ramp.code ++ bytesMsb 1 f.sequencer.code ++
    bytesMsb 1 f.level.severity ++ bytesMsb 2 f.vAvg ++ bytesMsb 2 (signed16 f.iAvg) ++
    bytesMsb 1 f.collapse.toNat

/-- The payload of a STATUS frame (R174, R175). -/
def StatusFrame.payload (f : StatusFrame) : List Byte :=
  bytesMsb 1 f.resetCause.code ++ bytesMsb 1 (16 * f.loader.code + f.haltReason.code) ++
    bytesMsb 1 f.causes.byte ++ bytesMsb 1 f.sticky.byte ++
    bytesMsb 1 (128 * f.sectionKnown.toNat + f.sectionIndex.toNat) ++ bytesMsb 1 f.entryCount ++
    bytesMsb 1 f.contestedCount ++ bytesMsb 1 f.reducedCount ++ bytesMsb 1 f.deratedCount ++
    bytesMsb 2 f.errorSum ++ bytesMsb 1 f.foreign ++
    bytesMsb 1 (16 * f.transmitter.code + f.ownSeq.toNat) ++ bytesMsb 1 f.dropped ++
    bytesMsb 1 f.published.toNat ++ bytesMsb 1 f.voided.toNat ++ bytesMsb 1 f.last.ending.code ++
    bytesMsb 2 f.last.steps

/-- An outbound frame as its bytes (R174). -/
def OutFrame.bytes : OutFrame → List Byte
  | .limit f => frameBytes typeLimit f.payload
  | .status f => frameBytes typeStatus f.payload
  | .refuse frameType reason => frameBytes typeRefuse [frameType, BitVec.ofNat 8 reason.code]

/-! ## The configuration block (R168, R176) -/

/-- A field of the block: the unsigned number its bytes form (R176). -/
def blockField (block : List Byte) (start count : Nat) : Nat := numberOfBytes (slice block start count)

/-- Section record i of the block (R176). -/
def blockSection (block : List Byte) (i : Nat) : SectionRecord :=
  { pilot := blockField block (62 + 6 * i) 1, capacity := blockField block (63 + 6 * i) 2,
    reserve := blockField block (65 + 6 * i) 1, accept := blockField block (66 + 6 * i) 1,
    absorb := blockField block (67 + 6 * i) 1 }

/-- The image that a block holds (R176). -/
def Image.ofBlock (block : List Byte) : Image :=
  { stationId := blockField block 0 1
    ownChannel := Fin.ofNat 16 (blockField block 1 1 / 16)
    staleLimit := blockField block 1 1 % 16
    period := blockField block 2 2
    sectionCount := blockField block 4 1
    guardPercent := blockField block 5 1
    rated := blockField block 6 2
    soloShare := blockField block 8 2
    auxDraw := blockField block 10 1
    lossyThreshold := blockField block 11 1
    recoveryRounds := blockField block 12 1
    overdrawMargin := blockField block 13 1
    voltWindow := blockField block 14 2
    vCollapse := blockField block 16 2
    vFloor := blockField block 18 2
    vStart := blockField block 20 2
    vTaper := blockField block 22 2
    vCut := blockField block 24 2
    slewUp := blockField block 26 1
    slewDown := blockField block 27 1
    slewCut := blockField block 28 1
    deadTime := blockField block 29 1
    chopperRating := blockField block 30 2
    bounceMax := blockField block 32 1
    contactClock := blockField block 33 1
    arcWarn := blockField block 34 2
    arcTrip := blockField block 36 2
    raiseTimeout := blockField block 38 2
    retractTimeout := blockField block 40 2
    prechargeTime := blockField block 42 2
    reacquireTime := blockField block 44 2
    coastMaximum := blockField block 46 2
    dischargeTime := blockField block 48 2
    upClock := blockField block 50 1
    downClock := blockField block 51 1
    pilotTimeout := blockField block 52 2
    gapMargin := blockField block 54 2
    gapGrace := blockField block 56 2
    silenceTime := blockField block 58 2
    stowTime := blockField block 60 2
    sections := ((List.range 8).map (blockSection block)).take (blockField block 4 1) }

/-- The loader's CRC test: bytes 0..109 against the last two bytes (R167). -/
def blockCrcAgrees (block : List Byte) : Bool :=
  (crcOfBytes (block.take 110)).toNat == blockField block 110 2

/-- A range "lo..hi", both ends included. -/
def inRange (lo hi n : Nat) : Bool := decide (lo ≤ n) && decide (n ≤ hi)

/-- A filter clock is 1, 4 or 16 ms (R168). -/
def isFilterClock (n : Nat) : Bool := n == 1 || n == 4 || n == 16

/-- The ranges of a counted section record (Section 11.3). -/
def SectionRecord.valid (r : SectionRecord) : Bool :=
  inRange 0 7 r.pilot && inRange 50 2000 r.capacity && inRange 0 200 r.reserve && inRange 0 100 r.accept &&
    inRange 0 100 r.absorb

/-- The orderings of R168. -/
def Image.ordered (i : Image) : Bool :=
  decide (i.vCollapse < i.vFloor) && decide (i.vFloor < i.vStart) && decide (i.vStart ≤ i.vTaper) &&
    decide (i.vTaper < i.vCut) && decide (i.vCut ≤ 3000) && decide (i.soloShare ≤ i.rated) &&
    decide (i.arcWarn < i.arcTrip) && decide (i.period % 10 = 0)

/-- The field ranges of Section 11.3 and R168, but for the sections. -/
def Image.fieldsInRange (i : Image) : Bool :=
  inRange 1 254 i.stationId && inRange 3 8 i.staleLimit && inRange 200 500 i.period &&
    inRange 0 50 i.guardPercent && inRange 50 400 i.rated && inRange 0 20 i.auxDraw &&
    inRange 1 60 i.lossyThreshold && inRange 50 1000 i.voltWindow && inRange 1 16 i.recoveryRounds &&
    inRange 500 2000 i.vCollapse && inRange 5 100 i.overdrawMargin && inRange 1 50 i.slewUp &&
    inRange 1 100 i.slewDown && inRange 5 200 i.slewCut && inRange 10 400 i.chopperRating &&
    inRange 1 16 i.deadTime && inRange 2000 15000 i.raiseTimeout && inRange 2000 15000 i.retractTimeout &&
    inRange 100 1000 i.prechargeTime && inRange 100 2000 i.reacquireTime && inRange 2000 30000 i.coastMaximum &&
    inRange 50 500 i.dischargeTime && isFilterClock i.contactClock && isFilterClock i.upClock &&
    isFilterClock i.downClock && inRange 1 32 i.bounceMax && inRange 1 2039 i.arcWarn &&
    inRange 2 2040 i.arcTrip && inRange 300 5000 i.pilotTimeout && inRange 0 2000 i.gapMargin &&
    inRange 500 10000 i.gapGrace && inRange 20 500 i.silenceTime && inRange 500 10000 i.stowTime

/-- The checks on the section table (R168): the count, each counted record's ranges, and distinct pilot codes. -/
def Image.sectionsValid (i : Image) : Bool :=
  inRange 1 8 i.sectionCount && i.sections.all SectionRecord.valid &&
    decide ((i.sections.map SectionRecord.pilot).Nodup)

/-- The checks that a block whose CRC agrees must pass to become the loaded image (R168). -/
def Image.valid (i : Image) : Bool := i.ordered && i.fieldsInRange && i.sectionsValid

end Sys2Proof.Machine
end

