-- ==== Sys2Proof/Machine/Send.lean ====
section
/-! DEFINITION. DLK's outbound side (R161 to R163): refusals, the composition of LIMIT and STATUS, the choice that a
free transmitter makes, and the shape that every command's meaning shares. -/

namespace Sys2Proof.Machine

/-- A refusal: a REFUSE frame joins the queue as its newest entry; one that finds 4 frames there is not queued, and
its frame counts as dropped (R161). -/
def State.refuse (s : State) (frameType : Byte) (reason : RefuseReason) : State :=
  if s.dlk.refusals.length < 4 then
    { s with dlk := { s.dlk with refusals := s.dlk.refusals ++ [(frameType, reason)] } }
  else { s with dlk := { s.dlk with dropped := saturate 255 s.dlk.dropped } }

/-- The contents of a LIMIT frame, as their owners hold them (R162). -/
def State.limitFrame (s : State) : LimitFrame :=
  { applied := s.drp.applied, target := s.drp.target, grant := s.sre.grant, regen := s.bch.regenInForce,
    chopper := s.bch.chopperInForce, ramp := s.drp.rampState, sequencer := s.psq.state, level := s.cfm.level,
    vAvg := s.msu.vAvg, iAvg := s.msu.iAvg, collapse := s.msu.collapse }

/-- The records of the table that are FRESH or AGING (R37). -/
def State.liveRecords (s : State) : List PeerRecord :=
  (s.ptb.entries.flatMap (fun e => e.2.records)).filter (fun r => r.freshness s.cfg s.now != .stale)

/-- The contents of a STATUS frame, as their owners hold them (R15, R37, R163). The PSQ state is taken with them (R117),
and so is the level, which STATUS shows (R145, R163); that the 19 bytes of R174 hold neither is kept, DESIGN CHOICE, log
entry 31. -/
def State.statusFrame (s : State) : StatusFrame :=
  { resetCause := s.dlk.resetCause, loader := s.cfl.loader, haltReason := s.cfl.haltReason,
    causes := s.cfm.causes, sticky := s.dlk.sticky, sectionKnown := s.sectionKnown,
    sectionIndex := s.sectionIndex, entryCount := s.ptb.entries.length,
    contestedCount := s.ptb.entries.countP (fun e => e.2.contender.isSome),
    reducedCount := s.liveRecords.countP (fun r => r.flags.guarded || r.flags.solo),
    deratedCount := s.liveRecords.countP (fun r => r.flags.derated),
    errorSum := s.ptb.errors.toList.sum, foreign := s.ptb.foreign, transmitter := s.ntx.state,
    ownSeq := s.ntx.seq, dropped := s.dlk.dropped, published := s.sre.published, voided := s.sre.voided,
    last := s.drp.last, sequencer := s.psq.state, level := s.cfm.level }

/-- The crystal cycles that a frame of `count` bytes takes: 10 bits a byte, 569 synthesis clocks a bit, 8 synthesis
clocks a crystal cycle (R156, R166), taken up to a whole cycle (log entry 12). -/
def sendingCycles (count : Nat) : Nat := (5690 * count + 7) / 8

/-- Begin to send a frame at this event (R161). -/
def State.startSending (s : State) (frame : OutFrame) : State :=
  let sending : Sending :=
    { frame := frame, startedAt := s.instant,
      endsAt := s.instant + BitVec.ofNat 45 (sendingCycles frame.bytes.length) }
  { s with dlk := { s.dlk with sending := some sending } }

/-- STATUS is composed: the sticky fault set is emptied, the dropped-frame count and PTB's 17 tallies are set to 0,
and STATUS pending is cleared (R15, R161, R163). -/
def State.composedStatus (s : State) : State :=
  { s with
    dlk := { s.dlk with sticky := .empty, dropped := 0, statusPending := false },
    ptb := { s.ptb with errors := Vector.replicate 16 0, foreign := 0 } }

/-- The choice at the end of an event: where the transmitter is IDLE and a source has a frame, the LIMIT buffer is
served first, then the oldest refusal, then STATUS (R161). -/
def State.settle (s : State) : State :=
  if s.dlk.sending.isSome then s
  else match s.dlk.limitBuffer with
    | some frame => { s with dlk := { s.dlk with limitBuffer := none } }.startSending (.limit frame)
    | none => match s.dlk.refusals with
      | (frameType, reason) :: rest =>
        { s with dlk := { s.dlk with refusals := rest } }.startSending (.refuse frameType reason)
      | [] =>
        if s.dlk.statusPending then s.composedStatus.startSending (.status s.statusFrame) else s

/-- The shape of a meaning. Where the event can occur in this state, its effect is taken and the transmitter then
makes its choice (R161); where it cannot, or while a reset is held (R170), nothing changes (log entry 3). That holds of
a RESTART frame end that meets a held PIN reset too, on which R165 speaks both ways. DESIGN CHOICE, log entry 30. The
choice stands once at the end of a row's whole effect: a completion's three reports (R151) are followed by one choice,
so one STATUS shows what all three leave (R163). DESIGN CHOICE, log entry 36. -/
def State.event (s : State) (occurs : Bool) (effect : State → State) : Host.Outcome State Fault Refusal :=
  if occurs && !s.held then .next (effect s).settle else .next s

end Sys2Proof.Machine
end

