-- ==== Sys2Proof/Machine/DrawOps.lean ====
section
/-! DEFINITION. The shared operations of the Draw Ramp, the Limit Reference Generator and the Brake Chopper: target
composition and episodes (R97, R98, R103 to R106), zeroing (R101), reference codes (R109), values in force and drive
state (R85, R93). -/

namespace Sys2Proof.Machine

/-! ## Limit reference (R109, R110) -/

/-- The reference code of an applied limit (R109). -/
def codeOf (applied rated : Nat) : Nat := (applied * 1023 + rated / 2) / rated

/-- DRP hands a new A to LRG: its code becomes the pending code (R102, R109, R111). -/
def State.handCode (s : State) : State :=
  { s with lrg := { s.lrg with pending := some (codeOf s.drp.applied s.cfg.rated) } }

/-- LRG is handed A where an event changed it (R102). -/
def State.handCodeIf (s : State) (before : Nat) : State := if s.drp.applied = before then s else s.handCode

/-! ## Target composition (R97) -/

/-- The value of a cap, in DU. -/
def Cap.value (c : Cap) (rated : Nat) : Nat :=
  match c with
  | .rated => rated
  | .limit n => n

/-- A cap that is 0 while a condition stands, and Rt otherwise. -/
def Cap.zeroWhile (stands : Bool) : Cap := if stands then .limit 0 else .rated

/-- The five caps as their sources stand (R97). -/
def State.capsNow (s : State) : Caps :=
  { sequencer := .zeroWhile (s.psq.state != .engaged),
    gap := .zeroWhile s.sgm.cut,
    arc := if s.psq.arcWarn then .limit (s.sre.grant / 2) else .rated,
    link := .zeroWhile s.dlk.silence,
    collapse := .zeroWhile s.msu.collapse }

/-- T: the least of the published grant and the five caps (R97). -/
def Caps.target (c : Caps) (grant rated : Nat) : Nat :=
  min grant (min (c.sequencer.value rated) (min (c.gap.value rated)
    (min (c.arc.value rated) (min (c.link.value rated) (c.collapse.value rated)))))

/-- Cut in force: the gap cut with PSQ in ENGAGED, or PSQ in CUTTING (R96). -/
def State.cutNow (s : State) : Bool :=
  (s.sgm.cut && s.psq.state == .engaged) || s.psq.state == .cutting

/-! ## Episodes (R103 to R106) -/

/-- The step count of the episode in progress, 0 where there is none. -/
def stepsOf (e : Option Episode) : Nat := (e.map Episode.steps).getD 0

/-- A recomposition that finds no episode starts one where T differs from A (R103). -/
def startEpisode (applied target : Nat) (hold cut : Bool) (last : LastEnding) : Option Episode × LastEnding :=
  if target = applied then (none, last)
  else if applied < target then
    (some { dir := .rising, target := target, steps := 0, held := hold },
      if hold then { ending := .held, steps := 0 } else last)
  else
    (some { dir := if cut then .cutting else .falling, target := target, steps := 0, held := false }, last)

/-- Whether T lies on the same side of A as a direction: above it for RISING, below it otherwise (R104). -/
def Direction.sameSide (d : Direction) (applied target : Nat) : Bool :=
  match d with
  | .rising => decide (applied < target)
  | .falling | .cutting => decide (target < applied)

/-- A recomposition acts on the episode in progress (R104). `cutEnds` is the end of a cut, at which a CUTTING
episode whose T still lies below A becomes FALLING. -/
def moveEpisode (applied target : Nat) (hold cut cutEnds : Bool) (e : Episode) (last : LastEnding) :
    Option Episode × LastEnding :=
  if target = applied then (none, { ending := .completed, steps := e.steps })
  else if e.dir.sameSide applied target then
    if cutEnds && e.dir == .cutting then
      (some { e with dir := .falling, target := target }, { ending := .retargeted, steps := e.steps })
    else if target = e.target then (some e, last)
    else (some { e with target := target }, { ending := .retargeted, steps := e.steps })
  else startEpisode applied target hold cut { ending := .retargeted, steps := e.steps }

/-- Hold follows arc warn: a RISING episode in progress is held when hold becomes set, with HELD recorded, and is let
go when hold is clear (R105). -/
def holdEpisode (hold becomesSet : Bool) (result : Option Episode × LastEnding) : Option Episode × LastEnding :=
  match result with
  | (some e, last) =>
    if e.dir == .rising then
      if hold then
        if becomesSet && !e.held then (some { e with held := true }, { ending := .held, steps := e.steps })
        else (some e, last)
      else (some { e with held := false }, last)
    else (some e, last)
  | (none, last) => (none, last)

/-- A recomposition at DRP (R98): the new caps and T stand from this event; cut in force and hold follow SGM and PSQ.
A cut's arrival is taken under R106, every other recomposition under R103 to R105. `cutArrives` marks the start of a
gap cut or an entry to CUTTING while cut in force is already set, which leaves the episode as it is (R106). A cut that
finds A at 0 leaves it too: DEDUCED, log entry 24. -/
def Drp.recompose (d : Drp) (caps : Caps) (target : Nat) (cut hold cutArrives : Bool) : Drp :=
  if cut && !d.cut then
    if d.applied = 0 then { d with caps := caps, target := target, cut := true, hold := hold }
    else
      { d with
        caps := caps, target := target, cut := true, hold := hold,
        episode := some { dir := .cutting, target := target, steps := 0, held := false },
        last := { ending := .cut, steps := stepsOf d.episode } }
  else if cut && cutArrives then { d with caps := caps, target := target, hold := hold }
  else
    let moved := match d.episode with
      | none => startEpisode d.applied target hold cut d.last
      | some e => moveEpisode d.applied target hold cut (d.cut && !cut) e d.last
    let result := holdEpisode hold (hold && !d.hold) moved
    { d with caps := caps, target := target, cut := cut, hold := hold, episode := result.1, last := result.2 }

/-- DRP recomposes T at an event that changes one of its terms (R98). Before READY it keeps its reset values (R96). -/
def State.recompose (s : State) (cutArrives : Bool) : State :=
  let target := s.capsNow.target s.sre.grant s.cfg.rated
  if s.isReady then
    { s with drp := s.drp.recompose s.capsNow target s.cutNow s.psq.arcWarn cutArrives }
  else s

/-- DRP at an entry to a state whose contactor is open: A and T become 0, the episode ends CUT, and cut in force and
hold are cleared (R101, R106). A ramp step that brings A to 0 by itself ends its episode COMPLETED (R104); an entry at
that moment then finds no episode and A at 0, and COMPLETED is kept, where R112 names CUT for a step that coincides with
the entry. DESIGN CHOICE, log entry 35. -/
def Drp.zero (d : Drp) (caps : Caps) : Drp :=
  { d with
    applied := 0, target := 0, caps := caps, hold := false, cut := false, episode := none,
    last := if d.episode.isSome || d.applied != 0 then { ending := .cut, steps := stepsOf d.episode } else d.last }

/-- The zeroing at an entry to a state whose contactor is open, with the code handed on where A changed (R101,
R102). -/
def State.zeroDraw (s : State) : State :=
  { s with drp := s.drp.zero s.capsNow }.handCodeIf s.drp.applied

/-- One ramp step at DRP (R100). -/
def Drp.step (d : Drp) (slewUp slewDown slewCut : Nat) : Drp :=
  let next :=
    if d.applied < d.target then (if d.hold then d.applied else min d.target (d.applied + slewUp))
    else max d.target (d.applied - (if d.cut then slewCut else slewDown))
  if next = d.applied then d
  else
    match d.episode with
    | none => { d with applied := next }
    | some e =>
      if next = d.target then
        { d with applied := next, episode := none, last := { ending := .completed, steps := e.steps + 1 } }
      else { d with applied := next, episode := some { e with steps := e.steps + 1 } }

/-! ## Brake chopper (R85, R89 to R93) -/

/-- The contactor is closed only in ENGAGED and CUTTING (R114). -/
def PsqState.closed : PsqState → Bool
  | .engaged | .cutting => true
  | _ => false

/-- The values in force: the regen limit and the chopper demand (R85, R86). -/
def inForce (state : PsqState) (gapCut : Bool) (regen chopper : Nat) : Nat × Nat :=
  match state with
  | .engaged => if gapCut then (0, regen + chopper) else (regen, chopper)
  | .cutting => (0, regen + chopper)
  | _ => (0, 0)

/-- BCH stands down: both switches off, the period abandoned (R93). -/
def Bch.stop (b : Bch) : Bch :=
  { b with running := false, inPeriod := false, count := 0, duty := 0, dumpLength := 0, dump := false,
           clamp := false }

/-- BCH recomputes its values in force and its drive state at an event that changes one of their inputs (R85, R93). -/
def State.refreshChopper (s : State) : State :=
  let pair := inForce s.psq.state s.sgm.cut s.sre.regen s.sre.chopper
  let b := { s.bch with regenInForce := pair.1, chopperInForce := pair.2 }
  if s.psq.state.closed then { s with bch := { b with running := true } } else { s with bch := b.stop }

/-- The duty D of a chopper demand (R89). -/
def dutyOf (demand rating : Nat) : Nat := min 256 (demand * 256 / rating)

/-- The dump length H that a duty gives (R90). -/
def dumpLengthOf (duty deadTime : Nat) : Nat :=
  if duty < 2 * deadTime then 0 else if duty ≤ 256 - 2 * deadTime then duty else 256

/-- Whether the dump switch is on at a count of a period (R91). -/
def dumpAt (dumpLength count : Nat) : Bool := decide (count < dumpLength)

/-- Whether the clamp switch is on at a count of a period (R91). -/
def clampAt (dumpLength deadTime count : Nat) : Bool :=
  decide (dumpLength < 256) && decide (dumpLength + deadTime ≤ count) && decide (count + deadTime < 256)

/-- DRP and BCH both read a changed term: the published values, or the gap cut (R85, R98). -/
def State.redraw (s : State) (cutArrives : Bool) : State := (s.recompose cutArrives).refreshChopper

end Sys2Proof.Machine
end

