-- ==== Sys2Proof/Machine/NoticeOps.lean ====
section
/-! DEFINITION. The shared operations of the Notice Transmitter (R16 to R23) and of the Peer Table (R28 to R36, R39):
the notice latch, the entries to IDLE and MUTED, the acceptance of a notice, the sweep of an entry and the copy for a
round. -/

namespace Sys2Proof.Machine

/-! ## Transmitter (R18 to R23) -/

/-- Put a new NTX in place; a change of the transmitter state is a STATUS trigger (R163). -/
def State.withNtx (s : State) (n : Ntx) : State :=
  { s with ntx := n }.triggerStatusIf (decide (n.state ≠ s.ntx.state))

/-- The notice that the latch is filled with at a start, from the values that the owning blocks hold (R19). While
link silence is in force demand and offer are 0. -/
def State.latchedNotice (s : State) (seq : SeqNo) : Notice :=
  { station := BitVec.ofNat 8 s.cfg.stationId,
    seq := seq,
    cls := BitVec.ofNat 3 (if s.sgm.cut then TruckClass.leaving.code else s.dlk.own.cls.code),
    flags := .own s.cfm.level s.sre.derated s.sgm.armed,
    demand := if s.dlk.silence then 0 else BitVec.ofNat 9 s.dlk.own.demand,
    offer := if s.dlk.silence then 0 else BitVec.ofNat 9 s.dlk.own.offer,
    volts := BitVec.ofNat 8 (s.msu.vAvg / 12),
    pilot := if s.sectionKnown then s.sectionIndex else 0 }

/-- The half-period count of the symbol being keyed (R3, R4). -/
def State.keyedHalfPeriod (s : State) : Nat :=
  let frame := (s.ntx.latch.map Notice.frame).getD []
  halfPeriod (symbolTone s.cfg.ownChannel (frame.getD s.ntx.symbolIndex false))

/-- A notice starts (R18): the own sequence advances, the latch is filled, and keying begins at symbol 0. What the
tone divider has counted and its level at that moment are free values. -/
def State.startNotice (s : State) : State :=
  let seq := s.ntx.seq + 1
  let s2 := s.drawn.withNtx { s.ntx with
    state := .sending, seq := seq, latch := some (s.latchedNotice seq), symbolIndex := 0, echoSeen := false,
    mutePending := false, symbolEnds := .start s.now 2 }
  let half := s2.keyedHalfPeriod
  s2.withNtx { s2.ntx with
    divider := { half := half, count := Config.dividerCount s.fresh % half, level := Config.dividerLevel s.fresh } }

/-- NTX enters IDLE, and keys nothing (R20, R21). -/
def State.enterIdle (s : State) : State := s.withNtx { s.ntx with state := .idle, symbolEnds := none }

/-- NTX enters MUTED (R23): CLASH is raised, unless it was raised when the mute-pending flag was set in this notice;
the quiet count is 0 and the activity flag clear. -/
def State.enterMuted (s : State) (clashRaised : Bool) : State :=
  let s1 := if clashRaised then s else s.raiseCause .clash
  s1.withNtx { s1.ntx with state := .muted, quiet := 0, activity := false, symbolEnds := none }

/-- The end of symbol 79 (R20, R21): a pending mute goes to MUTED; otherwise the echo check is made. -/
def State.completeNotice (s : State) : State :=
  if s.ntx.mutePending then s.enterMuted true
  else if s.ntx.echoSeen then { s with ntx := { s.ntx with echoFail := 0 } }.enterIdle
  else
    let s1 := { s with ntx := { s.ntx with echoFail := saturate 2 s.ntx.echoFail } }
    if s1.ntx.echoFail = 1 then s1.enterIdle else s1.enterMuted false

/-- Contact loss during SENDING aborts the notice (R20). -/
def State.abortNotice (s : State) : State :=
  if s.ntx.state = .sending then (if s.ntx.mutePending then s.enterMuted true else s.enterIdle) else s

/-- The notice timer's expiry in MUTED (R23): the quiet count steps, the activity flag is cleared, and at 8 the
transmitter is unmuted. -/
def State.quietStep (s : State) : State :=
  let quiet := if s.ntx.activity then 0 else saturate 8 s.ntx.quiet
  if quiet = 8 then
    ({ s with ntx := { s.ntx with quiet := quiet, activity := false, echoFail := 0 } }.clearCause .clash).enterIdle
  else { s with ntx := { s.ntx with quiet := quiet, activity := false } }

/-- A delivery from the own-channel context (R21, R22). -/
def State.ownDelivery (s : State) (n : Notice) : State :=
  let ownId := decide (n.station.toNat = s.cfg.stationId)
  match s.ntx.state with
  | .idle => s.enterMuted false
  | .sending =>
    if ownId then
      if s.ntx.latch.map Notice.seq = some n.seq then { s with ntx := { s.ntx with echoSeen := true } } else s
    else { s.raiseCause .clash with ntx := { s.ntx with mutePending := true } }
  | .off | .muted => s

/-! ## Peer table (R24 to R36, R39) -/

/-- A record written from a notice: every field is replaced, demand and offer clamped to 400 (R24). -/
def PeerRecord.ofNotice (n : Notice) (arrival : Tick) : PeerRecord :=
  { station := n.station.toNat, cls := (TruckClass.ofCode n.cls.toNat).getD .parked, flags := n.flags,
    demand := min n.demand.toNat heardClamp, offer := min n.offer.toNat heardClamp, volts := n.volts.toNat,
    lastSeq := n.seq, heardAt := arrival }

/-- The sequence gap (R30). -/
def seqGap (seq lastSeq : SeqNo) : Nat := (seq - lastSeq - 1).toNat

/-- The loss tally after a notice with this gap (R30). -/
def tallyAfter (tally gap : Nat) : Nat := if gap = 0 then tally - 1 else min 15 (tally + gap)

/-- Whether one record was heard longer ago than another (R33). -/
def PeerRecord.olderThan (r other : PeerRecord) (now : Tick) : Bool :=
  decide (elapsed now other.heardAt < elapsed now r.heardAt)

/-- Acceptance of a notice's record into the place of its channel (R29 to R33). -/
def acceptRecord (img : Image) (now : Tick) (slot : Option PeerEntry) (r : PeerRecord) : PeerEntry :=
  match slot with
  | none => { primary := r, tally := 0, contender := none }
  | some e =>
    if r.station = e.primary.station then
      { e with primary := r, tally := tallyAfter e.tally (seqGap r.lastSeq e.primary.lastSeq) }
    else if e.primary.freshness img now = .stale then { primary := r, tally := 0, contender := none }
    else match e.contender with
      | none => { e with contender := some r }
      | some c =>
        if r.station = c.station then { e with contender := some r }
        else if e.primary.olderThan c now then { e with primary := r, tally := 0 }
        else { e with contender := some r }

/-- PTB takes a delivery from a peer channel (R28 to R33). A notice that bears the own station id is not entered and
sets ID_SEEN_ELSEWHERE. -/
def State.peerDelivery (s : State) (ch : Channel) (n : Notice) : State :=
  if n.station.toNat = s.cfg.stationId then s.setSticky .idSeenElsewhere
  else
    let entry := acceptRecord s.cfg s.now s.ptb.slots[ch] (.ofNotice n s.now)
    { s with ptb := { s.ptb with slots := s.ptb.slots.set ch (some entry) } }

/-- A record due for removal at a sweep: STALE, or LEAVING with age at least 1 (R34, R39). -/
def PeerRecord.dueAt (r : PeerRecord) (img : Image) (now : Tick) : Bool :=
  r.freshness img now == .stale || (r.cls == .leaving && decide (1 ≤ r.age img now))

/-- A sweep of one entry (R39): the contender first, then the primary, whose place a surviving contender takes. -/
def sweepEntry (img : Image) (now : Tick) (e : PeerEntry) : Option PeerEntry :=
  let contender := e.contender.filter (fun c => !c.dueAt img now)
  if e.primary.dueAt img now then contender.map (fun c => { primary := c, tally := 0, contender := none })
  else some { e with contender := contender }

/-- A record qualifies for a round's copy: FRESH, or AGING without GAP_ARMED (R35, R36). -/
def PeerRecord.qualifies (r : PeerRecord) (img : Image) (now : Tick) : Bool :=
  match r.freshness img now with
  | .fresh => true
  | .aging => !r.flags.gapArmed
  | .stale => false

/-- A record in the copy (R36). -/
def PeerRecord.copy (r : PeerRecord) (img : Image) (now : Tick) : CopyRecord :=
  { station := r.station, cls := r.cls, flags := r.flags, demand := r.demand, offer := r.offer, volts := r.volts,
    freshness := r.freshness img now }

/-- An entry in the copy (R36). -/
def PeerEntry.copy (e : PeerEntry) (ch : Channel) (img : Image) (now : Tick) : CopyEntry :=
  { channel := ch, freshness := e.freshness img now, tally := e.tally, contested := e.contender.isSome,
    records := (e.records.filter (fun r => r.qualifies img now)).map (fun r => r.copy img now) }

/-- The copy of the table that PTB provides for a snapshot, in ascending channel order (R36). -/
def State.peerCopy (s : State) : List CopyEntry :=
  s.ptb.entries.map (fun p => p.2.copy p.1 s.cfg s.now)

/-- One channel error (R15). -/
def State.countError (s : State) (ch : Channel) : State :=
  { s with ptb := { s.ptb with errors := s.ptb.errors.set ch (saturate 255 s.ptb.errors[ch]) } }

/-- One foreign notice (R15). -/
def State.countForeign (s : State) : State :=
  { s with ptb := { s.ptb with foreign := saturate 255 s.ptb.foreign } }

/-- PTB removes every entry (R40). -/
def State.flushPeers (s : State) : State :=
  { s with ptb := { s.ptb with slots := Vector.replicate 16 none } }

end Sys2Proof.Machine
end

