-- ==== Sys2Proof/Machine/PantoOps.lean ====
section
/-! DEFINITION. The shared operations of the Pantograph Sequencer (R113 to R129) and of the gap record (R140 to R143):
state entries, contact events, the down-limit, the arc comparison, the gap cut and its end. -/

namespace Sys2Proof.Machine

/-! ## Gap record (R141 to R143) -/

/-- The gap cut starts (R141); with PSQ in ENGAGED or CUTTING it arrives at DRP under R106. -/
def State.startGapCut (s : State) : State :=
  { s with sgm := { s.sgm with phase := .cut, cut := true } }.redraw true

/-- The gap cut ends if it was in force (R98, R140, R143). -/
def State.endGapCut (s : State) : State :=
  if s.sgm.cut then { s with sgm := { s.sgm with cut := false } }.redraw false else s

/-- To disarm the gap (R143). -/
def State.disarmGap (s : State) : State :=
  { s with sgm := { s.sgm with phase := .disarmed, countdown := none, graceTimer := none } }.endGapCut

/-- The remaining time of a countdown (R140). -/
def Countdown.remaining (c : Countdown) (now : Tick) : Nat := c.timeToGap - elapsed now c.loadedAt

/-- A contact loss acts on the gap record (R143). -/
def Sgm.contactLost (g : Sgm) : Sgm :=
  match g.phase with
  | .approach => { g with phase := .crossing }
  | .cut => { g with phase := .crossing, graceTimer := none }
  | .disarmed | .crossing => g

/-! ## Sequencer states (R113 to R115, R127) -/

/-- The duration of the state timer in each state that starts it (R115). -/
def PsqState.duration (st : PsqState) (img : Image) : Option Nat :=
  match st with
  | .raising => some img.raiseTimeout
  | .precharge => some img.prechargeTime
  | .dropout => some img.reacquireTime
  | .gapCoast => some img.coastMaximum
  | .discharge => some img.dischargeTime
  | .retracting => some img.retractTimeout
  | .stowed | .engaged | .cutting | .stuck => none

/-- The actuator command of each state (R114). -/
def PsqState.actuator : PsqState → Actuator
  | .stowed => .idle
  | .raising | .precharge | .engaged | .cutting | .dropout | .gapCoast | .discharge => .raise
  | .retracting | .stuck => .lower

/-- PSQ enters a state (R114, R115): its outputs and its timer. ENGAGED and STOWED set the retry count to 0 (R120,
R125). ENGAGED clears the bounce ring, and every state but CUTTING clears the raw run count and arc warn (R127;
DEDUCED, log entry 18). -/
def Psq.enter (p : Psq) (st : PsqState) (img : Image) (now : Tick) : Psq :=
  { p with
    state := st,
    stateTimer := (st.duration img).bind (Timer.start now),
    retry := if st = .engaged ∨ st = .stowed then 0 else p.retry,
    rawRun := if st = .cutting then p.rawRun else 0,
    buckets := if st = .engaged then List.replicate 8 0 else p.buckets,
    arcWarn := if st = .cutting then p.arcWarn else false,
    contactor := st.closed,
    precharge := st == .precharge,
    discharge := st == .discharge,
    actuator := st.actuator }

/-- A state change of PSQ is an event at DLK, DRP and BCH (R117): a STATUS trigger, a recomposition or the zeroing,
and the chopper's values and drive state. -/
def State.enterPsq (s : State) (st : PsqState) : State :=
  let s1 := { s with psq := s.psq.enter st s.cfg s.now }.triggerStatusIf (decide (st ≠ s.psq.state))
  let s2 := if st.closed then s1.recompose (st == .cutting) else s1.zeroDraw
  s2.refreshChopper

/-- PSQ enters CUTTING; where A is 0 then, DRP hands "A at zero" and DISCHARGE follows at that moment (R102, R122). -/
def State.enterCutting (s : State) : State :=
  let s1 := s.enterPsq .cutting
  if s1.drp.applied = 0 then s1.enterPsq .discharge else s1

/-- PSQ enters RETRACTING; where the accepted down-limit is already true, STOWED follows at that moment (R125). -/
def State.enterRetracting (s : State) : State :=
  let s1 := s.enterPsq .retracting
  if s1.psq.downLimit.accepted then s1.enterPsq .stowed else s1

/-! ## Input events (R116, R119 to R125) -/

/-- PSQ at a contact loss (R119 to R125). -/
def State.psqContactLost (s : State) : State :=
  match s.psq.state with
  | .engaged => s.enterPsq (if s.sgm.armed then .gapCoast else .dropout)
  | .cutting => s.enterPsq .discharge
  | .precharge =>
    let s1 := { s with psq := { s.psq with retry := saturate 3 s.psq.retry } }
    if s1.psq.retry < 3 then s1.enterPsq .raising else (s1.setSticky .prechargeFail).enterPsq .discharge
  | _ => s

/-- A contact loss is an event at NTX, PSQ and SGM (R20, R116, R143). -/
def State.contactLost (s : State) : State :=
  let s1 := s.abortNotice.psqContactLost
  s1.withSgm s1.sgm.contactLost

/-- PSQ at a contact return (R119, R123, R124). -/
def State.psqContactReturned (s : State) : State :=
  match s.psq.state with
  | .raising => (if s.psq.upLimit.accepted then s else s.setSticky .raiseFail).enterPsq .precharge
  | .dropout | .gapCoast => s.enterPsq .precharge
  | _ => s

/-- A contact return is an event at PSQ and SGM; in CROSSING it disarms the gap (R143). -/
def State.contactReturned (s : State) : State :=
  let s1 := s.psqContactReturned
  if s1.sgm.phase = .crossing then s1.disarmGap else s1

/-- The accepted down-limit becomes true: RETRACTING and STUCK go to STOWED (R125); in HALTED the lower command is
removed, for good (R118). -/
def State.downLimitReached (s : State) : State :=
  if s.cfl.loader = .halted then { s with psq := { s.psq with actuator := .idle } }
  else match s.psq.state with
    | .retracting | .stuck => s.enterPsq .stowed
    | _ => s

/-- A filter's edge (R116): a sample that differs from the accepted level and equals the previous sample becomes the
accepted level; the sample becomes the previous sample. -/
def InputFilter.sample (f : InputFilter) (level : Bool) : InputFilter :=
  { accepted := if level != f.accepted && level == f.previous then level else f.accepted, previous := level }

/-- Whether an edge with this sample accepts it as a new level (R116). -/
def InputFilter.accepts (f : InputFilter) (level : Bool) : Bool := level != f.accepted && level == f.previous

/-- An edge of the contact filter; an accepted change is the contact event (R116). -/
def State.contactEdge (s : State) (level : Bool) : State :=
  let s1 := { s with psq := { s.psq with contact := s.psq.contact.sample level } }
  if s.psq.contact.accepts level then (if level then s1.contactReturned else s1.contactLost) else s1

/-- An edge of the up-limit filter, which raises no event (R116). -/
def State.upLimitEdge (s : State) (level : Bool) : State :=
  { s with psq := { s.psq with upLimit := s.psq.upLimit.sample level } }

/-- An edge of the down-limit filter; the event is the accepted level becoming true (R116). -/
def State.downLimitEdge (s : State) (level : Bool) : State :=
  let s1 := { s with psq := { s.psq with downLimit := s.psq.downLimit.sample level } }
  if s.psq.downLimit.accepts level && level then s1.downLimitReached else s1

/-- The clock period of a filter in ms, from the loaded image (R116). -/
def Image.filterClock (img : Image) : FilterId → Nat
  | .contact => img.contactClock
  | .upLimit => img.upClock
  | .downLimit => img.downClock

/-- Whether this tick is an edge of a filter's clock: its count is a multiple of the period (R116). The blocks take the
configuration quantities from the image at READY (R168); until then the manual states no period, also while a loaded
image awaits READY, and any tick may be an edge. DESIGN CHOICE, log entry 8. -/
def State.onFilterEdge (s : State) (input : FilterId) : Bool :=
  s.tmb.onTick && (!s.isReady || s.now.toNat % s.cfg.filterClock input == 0)

/-! ## Arc monitor (R127 to R129) -/

/-- The arc sum (R128). -/
def Psq.arcSum (p : Psq) : Nat := p.buckets.sum

/-- Arc warn after a comparison (R129). -/
def arcWarnAfter (img : Image) (before : Bool) (sum : Nat) : Bool :=
  if img.arcWarn ≤ sum then true else if img.arcWarn / 2 < sum then before else false

/-- The comparison of the arc sum (R129). A change of arc warn is an event at DRP. -/
def State.compareArc (s : State) : State :=
  let sum := s.psq.arcSum
  let warn := arcWarnAfter s.cfg s.psq.arcWarn sum
  if s.cfg.arcTrip ≤ sum then
    let s1 := { s with psq := { s.psq with arcWarn := true } }.setSticky .arcTrip
    if s.psq.state = .engaged then s1.enterCutting
    else if s.psq.arcWarn then s1 else s1.recompose false
  else
    let s1 := { s with psq := { s.psq with arcWarn := warn } }
    if warn = s.psq.arcWarn then s1 else s1.recompose false

/-- The ring advances: the oldest bucket is discarded and an empty one becomes current (R128). -/
def Psq.advanceRing (p : Psq) : Psq := { p with buckets := p.buckets.drop 1 ++ [0] }

/-- One contact sample (R127): "no contact" lengthens the run, up to bounce_max + 1; "contact" ends it, and a run of
1 to bounce_max raises the current bucket, up to 255. -/
def Psq.contactSample (p : Psq) (contact : Bool) (bounceMax : Nat) : Psq :=
  if contact then
    let bounce := decide (1 ≤ p.rawRun) && decide (p.rawRun ≤ bounceMax)
    { p with
      rawRun := 0,
      buckets := if bounce then p.buckets.modify 7 (saturate 255) else p.buckets }
  else { p with rawRun := saturate (bounceMax + 1) p.rawRun }

end Sys2Proof.Machine
end

