-- ==== Sys2Proof/Machine/Carrier.lean ====
section
/-! DEFINITION. The carrier family: the reception contexts (R7 to R15) and the keying and completion of a notice
(R4, R20). Commands SYNC_ENTRY, FRAME_ABANDON, NOTICE_RECEIVED, SYMBOL_BOUNDARY, SYMBOL_DECISION, SYMBOL_STROBE,
NOTICE_COMPLETION. Rows that name one outcome of a decision: DEDUCED, log entry 16. -/

namespace Sys2Proof.Machine

/-! ## Reception contexts -/

/-- Every decision is appended to the sync window, and the oldest of 8 is dropped (R9). -/
def pushDecision (window : List Symbol) (d : Symbol) : List Symbol :=
  (window ++ [d]).drop (window.length + 1 - 8)

/-- The alternation run after a decision in HUNT (R9): a MARK or SPACE that differs from the previous decision raises
it, one that repeats it or follows a NONE sets it to 1, and NONE sets it to 0. -/
def runAfter (c : RxContext) (d : Symbol) : Nat :=
  match d, c.window.getLast? with
  | .silent, _ => 0
  | .mark, some .space => c.run + 1
  | .space, some .mark => c.run + 1
  | _, _ => 1

/-- A context returns to HUNT: no decisions counted in SYNC, no bits received (R10, R11). DEDUCED, log entry 17. -/
def RxContext.toHunt (c : RxContext) (run : Nat) : RxContext :=
  { c with state := .hunt, run := run, syncCount := 0, body := [] }

/-- The bit that a decision in BODY stands for (R11). -/
def Symbol.bit : Symbol → Option Bool
  | .mark => some true
  | .space => some false
  | .silent => none

/-- The other tone's decision. -/
def Symbol.other : Symbol → Symbol
  | .mark => .space
  | .space => .mark
  | .silent => .silent

/-- Put a context in place. -/
def State.withContext (s : State) (ch : Channel) (c : RxContext) : State :=
  { s with crx := { s.crx with contexts := s.crx.contexts.set ch c } }

/-- NTX learns of an entry to SYNC on the own channel; while it is MUTED, that sets the activity flag (R9, R23). -/
def State.syncEntered (s : State) (ch : Channel) : State :=
  if ch = s.cfg.ownChannel ∧ s.ntx.state = .muted then { s with ntx := { s.ntx with activity := true } } else s

/-- The check of a completed frame (R12 to R14): the CRC and field tests, the own echo past the pilot comparison, the
pilot comparison where the section is known, and the delivery to NTX or PTB. -/
def State.checkRecord (s : State) (ch : Channel) (bits : List Bool) : State :=
  let n := Notice.ofBody (bits.take 48)
  let own := decide (ch = s.cfg.ownChannel)
  if !recordCrcAgrees bits || !n.fieldsPass then s.countError ch
  else if own && decide (n.station.toNat = s.cfg.stationId) then s.ownDelivery n
  else if s.sectionKnown && decide (n.pilot ≠ s.sectionIndex) then s.countForeign
  else if own then s.ownDelivery n
  else s.peerDelivery ch n

/-- A context takes one symbol decision (R9 to R11). On the 13th decision in SYNC the alternation run it returns to
HUNT with is a free value, 0..6 (log entry 6). -/
def State.decideSymbol (s : State) (ch : Channel) (d : Symbol) : State :=
  let was := s.crx.contexts[ch]
  let c := { was with window := pushDecision was.window d }
  match was.state with
  | .hunt =>
    let run := runAfter was d
    if 6 ≤ run then (s.withContext ch { c with state := .sync, run := 6, syncCount := 0 }).syncEntered ch
    else s.withContext ch { c with run := run }
  | .sync =>
    if d = .silent then s.withContext ch (c.toHunt 0)
    else if c.window = syncPattern.map Symbol.ofBit then s.withContext ch { c with state := .body, body := [] }
    else if was.syncCount < 12 then s.withContext ch { c with syncCount := was.syncCount + 1 }
    else s.drawn.withContext ch (c.toHunt (Config.huntRun s.fresh % 7))
  | .body =>
    match d.bit with
    | none => (s.withContext ch (c.toHunt 0)).countError ch
    | some b =>
      let bits := was.body ++ [b]
      if 64 ≤ bits.length then (s.withContext ch (c.toHunt 0)).checkRecord ch bits
      else s.withContext ch { c with body := bits }

/-- Decisions fall 1 ms after the context's boundary and every 2 ms after that (R8): 8,192 crystal cycles, and then
every 16,384. -/
def RxContext.decisionDue (c : RxContext) (now : Instant) : Bool :=
  match c.boundary with
  | none => false
  | some b => (now - b).toNat % 16384 == 8192

/-- Whether a context takes a decision at this moment: from READY on (R7), at its decision times (R8). -/
def State.takesDecision (s : State) (ch : Channel) : Bool :=
  s.isReady && (s.crx.contexts[ch]).decisionDue s.instant

/-- A change of tone content is taken as the symbol boundary (R8). -/
def State.takeBoundary (s : State) (ch : Channel) : State :=
  s.withContext ch { s.crx.contexts[ch] with boundary := some s.instant }

/-- The next symbol is keyed (R20). -/
def State.nextSymbol (s : State) : State :=
  { s with ntx := { s.ntx with symbolIndex := s.ntx.symbolIndex + 1, symbolEnds := s.ntx.symbolEnds.reload 2 } }

/-! ## Commands -/

/-- SYMBOL_BOUNDARY (R8): in HUNT, a change of tone content is taken as the new symbol boundary. DEDUCED, log entry
15. -/
def execSymbolBoundary (change : ToneChange) (s : State) : Host.Outcome State Fault Refusal :=
  s.event ((s.crx.contexts[change.channel]).state == .hunt && contentChanges change) fun s => s.takeBoundary change.channel

/-- SYMBOL_DECISION (R8 to R11): a decision from the components that the channel carried; those that were above the
threshold for only part of the 1 ms count as not present. -/
def execSymbolDecision (ch : Channel) (steady _passing : List Component) (s : State) :
    Host.Outcome State Fault Refusal :=
  s.event (s.takesDecision ch) fun s => s.decideSymbol ch (.ofComponents ch steady)

/-- SYNC_ENTRY (R9): the decision in HUNT that alternates with the previous one and takes the run to 6. -/
def execSyncEntry (ch : Channel) (s : State) : Host.Outcome State Fault Refusal :=
  let c := s.crx.contexts[ch]
  let d := (c.window.getLast?.getD .silent).other
  s.event (s.takesDecision ch && c.state == .hunt && decide (6 ≤ runAfter c d)) fun s => s.decideSymbol ch d

/-- FRAME_ABANDON (R11): a NONE decision in BODY. -/
def execFrameAbandon (ch : Channel) (s : State) : Host.Outcome State Fault Refusal :=
  s.event (s.takesDecision ch && (s.crx.contexts[ch]).state == .body) fun s => s.decideSymbol ch .silent

/-- NOTICE_RECEIVED (R11 to R14): the decision in BODY that brings the 64th bit. -/
def execNoticeReceived (ch : Channel) (mark : Bool) (s : State) : Host.Outcome State Fault Refusal :=
  let c := s.crx.contexts[ch]
  s.event (s.takesDecision ch && c.state == .body && c.body.length == 63) fun s =>
    s.decideSymbol ch (.ofBit mark)

/-- SYMBOL_STROBE (R20): the strobe that ends one of symbols 0..78 while SENDING; the next symbol is keyed. -/
def execSymbolStrobe (s : State) : Host.Outcome State Fault Refusal :=
  s.event (s.ntx.state == .sending && decide (s.ntx.symbolIndex < 79) && s.ntx.symbolEnds.due s.now) State.nextSymbol

/-- NOTICE_COMPLETION (R20): the strobe that ends symbol 79. -/
def execNoticeCompletion (s : State) : Host.Outcome State Fault Refusal :=
  s.event (s.ntx.state == .sending && s.ntx.symbolIndex == 79 && s.ntx.symbolEnds.due s.now) State.completeNotice

end Sys2Proof.Machine
end

