-- ==== Sys2Proof/Machine/Rounds.lean ====
section
/-! DEFINITION. The share-round family (R43 to R68), with the notice timer's expiry, which NTX and SRE share (R17),
and the sweep of the peer table (R38). Commands NOTICE_TIMER_EXPIRY, ROUND_COMPLETION, SWEEP. -/

namespace Sys2Proof.Machine

/-! ## Starting a round (R44 to R47) -/

/-- The own record that a round or a notice reads: under link silence demand and offer are 0 (R45, R158). -/
def Dlk.ownAsRead (d : Dlk) : OwnRecord :=
  if d.silence then { d.own with demand := 0, offer := 0 } else d.own

/-- The snapshot of a round (R45). -/
def State.snapshot (s : State) : Snapshot :=
  { own := s.dlk.ownAsRead, sectionIndex := s.sectionIndex, sectionKnown := s.sectionKnown,
    sectionRecord := s.currentSection, level := s.cfm.level, vAvg := s.msu.vAvg, peers := s.peerCopy }

/-- The station list of a snapshot: self, then each entry's qualifying records in channel order (R46). -/
def Snapshot.stations (snap : Snapshot) : List Station :=
  { cls := snap.own.cls, demand := snap.own.demand, offer := snap.own.offer } ::
    snap.peers.flatMap (fun e =>
      e.records.map (fun r => { cls := r.cls, demand := r.demand, offer := r.offer }))

/-- The mode that governs a round's arithmetic (R47). -/
def Snapshot.mode (snap : Snapshot) : Level := if snap.sectionKnown then snap.level else .solo

/-- A round starts (R44), its tags holding what stands at the expiry. After a section change and its flush at the same
moment they hold the new values and the round may publish (R69), where R42 has such a round void in either order. DESIGN
CHOICE, log entry 38. -/
def State.startRound (s : State) : State :=
  let snap := s.snapshot
  let round : Round :=
    { snapshot := snap, stations := snap.stations, mode := snap.mode, startedAt := s.now,
      tags := { sectionIndex := snap.sectionIndex, sectionKnown := snap.sectionKnown, level := snap.level } }
  { s with sre := { s.sre with round := some round } }

/-- An expiry that starts no round sets the three published values to 0 (R44). -/
def State.zeroPublished (s : State) : State :=
  { s with sre := { s.sre with grant := 0, regen := 0, chopper := 0 } }.redraw false

/-! ## Who takes part (R49) -/

/-- The weight of a class; 0 for a class that is no consumer class (R49). -/
def TruckClass.weight : TruckClass → Nat
  | .loadedClimb => 4
  | .emptyClimb => 2
  | .level => 1
  | .parked | .descent | .leaving => 0

/-- Whether a station belongs to K, the consumers (R49). -/
def Station.consumes (st : Station) : Bool := decide (0 < st.cls.weight) && decide (0 < st.demand)

/-- Whether a station belongs to G, the regenerators (R49). -/
def Station.regenerates (st : Station) : Bool := st.cls == .descent && decide (0 < st.offer)

/-- The sum of a figure over a set of stations. -/
def sumOver (stations : List Station) (member : Station → Bool) (figure : Station → Nat) : Nat :=
  ((stations.filter member).map figure).sum

/-! ## Capacity, levels and factors (R50 to R61) -/

/-- The regeneration credit (R50). -/
def creditOf (record : SectionRecord) (stations : List Station) : Nat :=
  min (sumOver stations Station.regenerates Station.offer * record.accept / 100) (record.capacity / 2)

/-- The guard reduction in GUARDED mode (R51, R58). -/
def guardedAmount (mode : Level) (guardPercent amount : Nat) : Nat :=
  if mode = .guarded then amount * (100 - guardPercent) / 100 else amount

/-- The effective capacity E (R51); E0 = max(0, C - M + credit). -/
def effectiveCapacity (record : SectionRecord) (mode : Level) (guardPercent : Nat) (stations : List Station) : Nat :=
  guardedAmount mode guardPercent (record.capacity + creditOf record stations - record.reserve)

/-- The ten weights of the search (R53). -/
def searchWeights : List Nat := [512, 256, 128, 64, 32, 16, 8, 4, 2, 1]

/-- The search in ten steps for the greatest level whose sum is within the bound (R53). -/
def levelSearch (f : Nat → Nat) (bound : Nat) : Nat :=
  searchWeights.foldl (fun candidate w => if f (candidate + w) ≤ bound then candidate + w else candidate) 0

/-- f(L): the sum over K of min(d, w L) (R52). -/
def drawAtLevel (stations : List Station) (level : Nat) : Nat :=
  sumOver stations Station.consumes (fun st => min st.demand (st.cls.weight * level))

/-- The sum over G of min(o, L) (R59). -/
def regenAtLevel (stations : List Station) (level : Nat) : Nat :=
  sumOver stations Station.regenerates (fun st => min st.offer level)

/-- A factor on the 256 scale that rises from `low` to `high` (R55). -/
def deratingFactor (vAvg vFloor vStart : Nat) : Nat :=
  if vStart ≤ vAvg then 256 else if vAvg ≤ vFloor then 0 else (vAvg - vFloor) * 256 / (vStart - vFloor)

/-- The taper factor (R60). -/
def taperFactor (vAvg vTaper vCut : Nat) : Nat :=
  if vAvg ≤ vTaper then 256 else if vCut ≤ vAvg then 0 else (vCut - vAvg) * 256 / (vCut - vTaper)

/-- The grant of a share, with the auxiliary floor (R56). -/
def grantOf (share factor auxDraw : Nat) : Nat :=
  let grant := share * factor / 256
  if auxDraw ≤ share ∧ grant < auxDraw then auxDraw else grant

/-- Self, the first of the station list (R46). -/
def Snapshot.self (snap : Snapshot) : Station :=
  { cls := snap.own.cls, demand := snap.own.demand, offer := snap.own.offer }

/-- The section record that a round outside SOLO mode uses; a round in SOLO mode needs none (R47). -/
def Snapshot.record (snap : Snapshot) : SectionRecord :=
  snap.sectionRecord.getD { pilot := 0, capacity := 0, reserve := 0, accept := 0, absorb := 0 }

/-- The own share (R52, R54). -/
def Round.share (r : Round) (img : Image) : Nat :=
  let self := r.snapshot.self
  if self.consumes then
    if r.mode = .solo then min self.demand img.soloShare
    else
      let level := levelSearch (drawAtLevel r.stations)
        (effectiveCapacity r.snapshot.record r.mode img.guardPercent r.stations)
      min self.demand (self.cls.weight * level)
  else 0

/-- The absorption A_b (R58). -/
def Round.absorption (r : Round) (img : Image) : Nat :=
  guardedAmount r.mode img.guardPercent
    (sumOver r.stations Station.consumes Station.demand * r.snapshot.record.absorb / 100)

/-- The regen limit (R59 to R61). -/
def Round.regenLimit (r : Round) (img : Image) : Nat :=
  let self := r.snapshot.self
  if self.regenerates ∧ r.mode ≠ .solo then
    let level := levelSearch (regenAtLevel r.stations) (r.absorption img)
    min self.offer level * taperFactor r.snapshot.vAvg img.vTaper img.vCut / 256
  else 0

/-- The chopper demand (R61). -/
def Round.chopperDemand (r : Round) (img : Image) : Nat :=
  let self := r.snapshot.self
  if self.regenerates then self.offer - r.regenLimit img else 0

/-- The derating factor of a round (R55). -/
def Round.factor (r : Round) (img : Image) : Nat := deratingFactor r.snapshot.vAvg img.vFloor img.vStart

/-- The grant of a round (R56). -/
def Round.grant (r : Round) (img : Image) : Nat := grantOf (r.share img) (r.factor img) img.auxDraw

/-! ## Completion (R62 to R68) -/

/-- Whether the start tags equal the live section identity and level (R62). -/
def State.tagsHold (s : State) (tags : StartTags) : Bool :=
  decide (tags.sectionIndex = s.sectionIndex) && decide (tags.sectionKnown = s.sectionKnown) &&
    decide (tags.level = s.cfm.level)

/-- LOSSY, from the FRESH entries' loss tallies (R66). -/
def Round.lossy (r : Round) (img : Image) : Bool :=
  decide (img.lossyThreshold ≤ ((r.snapshot.peers.filter (fun e => e.freshness == .fresh)).map CopyEntry.tally).sum)

/-- The primary records of the FRESH uncontested entries (R67). -/
def Snapshot.witnesses (snap : Snapshot) : List CopyRecord :=
  (snap.peers.filter (fun e => e.freshness == .fresh && !e.contested)).filterMap (fun e => e.records.head?)

/-- Whether a peer's reported voltage lies outside the volt window (R67). -/
def CopyRecord.differs (c : CopyRecord) (vAvg window : Nat) : Bool :=
  decide (vAvg + window < c.volts * 12) || decide (c.volts * 12 + window < vAvg)

/-- VOLT_SUSPECT, from most of the FRESH uncontested peers (R67). -/
def Round.voltSuspect (r : Round) (img : Image) : Bool :=
  let peers := r.snapshot.witnesses
  let m := peers.countP (fun c => c.differs r.snapshot.vAvg img.voltWindow)
  decide (2 ≤ peers.length) && decide (peers.length < 2 * m)

/-- A round is published (R63). -/
def State.publish (s : State) (r : Round) : State :=
  { s with sre := { s.sre with
    round := none, grant := r.grant s.cfg, regen := r.regenLimit s.cfg, chopper := r.chopperDemand s.cfg,
    derated := decide (r.factor s.cfg < 256), published := s.sre.published + 1 } }.redraw false

/-- A round is void (R64). -/
def State.voidRound (s : State) : State :=
  { s with sre := { s.sre with round := none, voided := s.sre.voided + 1 } }

/-- The round completes (R62), and SRE then reports to CFM: the publication notice where it was published, LOSSY, and
VOLT_SUSPECT (R68, R151). -/
def State.completeRound (s : State) (r : Round) : State :=
  let s1 :=
    if s.tagsHold r.tags then
      let p := s.publish r
      p.withCfm (p.cfm.publication s.cfg.recoveryRounds)
    else s.voidRound
  (s1.reportCause .lossy (r.lossy s.cfg)).reportCause .voltSuspect (r.voltSuspect s.cfg)

/-! ## Commands -/

/-- NTX at a notice timer expiry (R18, R23). -/
def State.ntxExpiry (s : State) : State :=
  match s.ntx.state with
  | .idle => if s.psq.contact.accepted then s.startNotice else s
  | .muted => s.quietStep
  | .off | .sending => s

/-- SRE at a notice timer expiry (R44). -/
def State.sreExpiry (s : State) : State :=
  if s.psq.state = .precharge ∨ s.psq.state = .engaged then s.startRound else s.zeroPublished

/-- An expiry of the notice timer (R17): the timer runs on, and NTX and SRE act on the one expiry. -/
def State.noticeExpiry (s : State) : State :=
  let s1 := { s with ntx := { s.ntx with noticeTimer := s.ntx.noticeTimer.reload s.cfg.period } }
  s1.ntxExpiry.sreExpiry

/-- The round in flight completes (R62). -/
def State.roundEnds (s : State) : State :=
  match s.sre.round with
  | none => s
  | some r => s.completeRound r

/-- A sweep of every entry, with the tick of the expiry (R38, R39). -/
def State.sweepTable (s : State) : State :=
  { s with ptb := { s.ptb with
    slots := s.ptb.slots.map (fun slot => slot.bind (sweepEntry s.cfg s.now)),
    sweepTimer := s.ptb.sweepTimer.reload 50 } }

/-- NOTICE_TIMER_EXPIRY (R17, R18, R23, R44). -/
def execNoticeTimerExpiry (s : State) : Host.Outcome State Fault Refusal :=
  s.event (s.ntx.noticeTimer.due s.now) State.noticeExpiry

/-- ROUND_COMPLETION (R62 to R68), while a round is in flight. DESIGN CHOICE, log entry 25. -/
def execRoundCompletion (s : State) : Host.Outcome State Fault Refusal :=
  s.event s.sre.round.isSome State.roundEnds

/-- SWEEP (R38, R39). -/
def execSweep (s : State) : Host.Outcome State Fault Refusal :=
  s.event (s.ptb.sweepTimer.due s.now) State.sweepTable

end Sys2Proof.Machine
end

