-- ==== Sys2Proof/Machine/Section.lean ====
section
/-! DEFINITION. The section and gap family (R133 to R143). Commands PILOT_WINDOW_END, REJOIN_EXPIRY,
COUNTDOWN_RUN_OUT, GRACE_EXPIRY; and what SGM does with a GAP frame and at a ramp step. -/

namespace Sys2Proof.Machine

/-! ## Section identity (R134 to R138) -/

/-- A change of the section index or of the section-known flag is a STATUS trigger (R163). -/
def State.triggerIfSectionMoved (s before : State) : State :=
  s.triggerStatusIf (decide (s.sectionIndex ≠ before.sectionIndex) || decide (s.sectionKnown ≠ before.sectionKnown))

/-- The established code is the current code: the pilot is back on the same section (R135). -/
def State.pilotReturned (s : State) : State :=
  if s.sgm.lost then
    ({ s with sgm := { s.sgm with lost := false } }.clearCause .pilotLost).triggerIfSectionMoved s
  else s

/-- A section change, its actions in the manual's order (R136). -/
def State.changeSection (s : State) (p : PilotCode) : State :=
  let s1 := { s with sgm := { s.sgm with currentCode := some p, lost := false } }.triggerIfSectionMoved s
  let s2 := s1.flushPeers.raiseCause .rejoin
  let s3 := s2.withSgm { s2.sgm with rejoinTimer := .start s2.now (2 * s2.cfg.period) }
  let s4 := s3.clearCause .pilotLost
  let s5 := s4.reportCause .sectionUnknown (s4.cfg.sectionOf p).isNone
  if s5.sgm.armed then s5.disarmGap else s5

/-- A code is established (R134 to R136). -/
def State.establish (s : State) (p : PilotCode) : State :=
  if s.sgm.currentCode = some p then s.pilotReturned else s.changeSection p

/-- A window that yields a code (R134). A code is established at the window that brings the count to 3. -/
def State.windowCode (s : State) (p : PilotCode) : State :=
  if s.sgm.candidate = some p then
    let s1 := { s with sgm := { s.sgm with stability := saturate 3 s.sgm.stability, noneCount := 0 } }
    if s.sgm.stability < 3 ∧ s1.sgm.stability = 3 then s1.establish p else s1
  else { s with sgm := { s.sgm with candidate := some p, stability := 1, noneCount := 0 } }

/-- The silent windows that lose a pilot: ceil(pilot timeout / 100) (R138). -/
def Image.silentWindows (img : Image) : Nat := (img.pilotTimeout + 99) / 100

/-- A window that yields none (R134, R138). -/
def State.windowNone (s : State) : State :=
  let s1 := { s with sgm := { s.sgm with
    candidate := none, stability := 0, noneCount := saturate 50 s.sgm.noneCount } }
  if s.cfg.silentWindows ≤ s1.sgm.noneCount ∧ s.sgm.lost = false then
    ({ s1 with sgm := { s1.sgm with lost := true } }.raiseCause .pilotLost).triggerIfSectionMoved s
  else s1

/-! ## Gap countdown (R140, R141) -/

/-- A GAP frame's clamped distance and speed (R140). -/
def State.gapFrame (s : State) (metres speed : Nat) : State :=
  if metres = 0 then (if s.sgm.armed then s.disarmGap else s)
  else
    { s with sgm := { s.sgm with
      phase := .approach, graceTimer := none,
      countdown := some { timeToGap := 10000 * metres / speed, loadedAt := s.now } } }.endGapCut

/-- The cut time of an applied limit (R141). -/
def Image.cutTime (img : Image) (applied : Nat) : Nat :=
  (applied + img.slewCut - 1) / img.slewCut * 10 + img.gapMargin

/-- SGM judges the cut condition at a ramp step, with the A resulting from the step (R141). -/
def State.judgeGap (s : State) : State :=
  match s.sgm.countdown with
  | none => s
  | some c =>
    if s.sgm.phase = .approach ∧ c.remaining s.now ≤ s.cfg.cutTime s.drp.applied then s.startGapCut else s

/-- Whether the countdown has run out with its grace timer not yet started, in APPROACH or CUT (R142). -/
def State.countdownOut (s : State) : Bool :=
  match s.sgm.countdown with
  | none => false
  | some c =>
    (s.sgm.phase == .approach || s.sgm.phase == .cut) && s.sgm.graceTimer.isNone && c.remaining s.now == 0

/-! ## Commands -/

/-- The end of a pilot window, with what the window yields (R133, R134, R138); the next window begins. -/
def State.windowEnds (s : State) (result : Option PilotCode) : State :=
  let s1 := { s with crx := { s.crx with pilotEnd := s.crx.pilotEnd.reload 100 } }
  match result with
  | some p => s1.windowCode p
  | none => s1.windowNone

/-- The rejoin timer's expiry (R139). -/
def State.endRejoin (s : State) : State := { s with sgm := { s.sgm with rejoinTimer := none } }.clearCause .rejoin

/-- The countdown has run out: in APPROACH the cut starts; the grace timer starts (R142). -/
def State.countdownRunsOut (s : State) : State :=
  let s1 := if s.sgm.phase = .approach then s.startGapCut else s
  s1.withSgm { s1.sgm with graceTimer := .start s.now s.cfg.gapGrace }

/-- A false gap (R142). -/
def State.falseGap (s : State) : State := (s.setSticky .falseGap).disarmGap

/-- PILOT_WINDOW_END (R133, R134, R138). -/
def execPilotWindowEnd (aboveThroughout : Bool) (meanMilliHz : Nat) (s : State) :
    Host.Outcome State Fault Refusal :=
  s.event (s.crx.pilotEnd.due s.now) fun s => s.windowEnds (pilotCodeOf aboveThroughout meanMilliHz)

/-- REJOIN_EXPIRY (R139). -/
def execRejoinExpiry (s : State) : Host.Outcome State Fault Refusal :=
  s.event (s.sgm.rejoinTimer.due s.now) State.endRejoin

/-- COUNTDOWN_RUN_OUT (R142). -/
def execCountdownRunOut (s : State) : Host.Outcome State Fault Refusal :=
  s.event s.countdownOut State.countdownRunsOut

/-- GRACE_EXPIRY (R142). -/
def execGraceExpiry (s : State) : Host.Outcome State Fault Refusal :=
  s.event (s.sgm.graceTimer.due s.now) State.falseGap

end Sys2Proof.Machine
end

