-- ==== Sys2Proof/Machine/Draw.lean ====
section
/-! DEFINITION. The draw family: the ramp step (R100 to R102), the limit reference (R108 to R111) and the brake chopper
(R88 to R93). Commands RAMP_STEP, GROUP_START, PWM_COUNT, CHOPPER_PERIOD_START, CHOPPER_COUNT. -/

namespace Sys2Proof.Machine

/-- DRP hands "A at zero" to PSQ, which leaves CUTTING for DISCHARGE (R102, R122). -/
def State.handZero (s : State) : State :=
  if s.psq.state = .cutting ∧ s.drp.applied = 0 then s.enterPsq .discharge else s

/-- The high count h of a frame (R110). -/
def highCount (code frame : Nat) : Nat := code / 4 + (if frame < code % 4 then 1 else 0)

/-- The output of a frame at a count: high for counts [0, h) (R110). -/
def Lrg.drive (l : Lrg) : Lrg := { l with output := decide (l.count < highCount l.current l.frame) }

/-- A group starts (R111). -/
def Lrg.startGroup (l : Lrg) : Lrg :=
  { l with current := l.pending.getD l.current, pending := none, frame := 0, count := 0 }.drive

/-- The next count; at a period's end the next frame of the group (R110). -/
def Lrg.nextCount (l : Lrg) : Lrg :=
  if l.count < 255 then { l with count := l.count + 1 }.drive
  else { l with count := 0, frame := (l.frame + 1) % 4 }.drive

/-- A ramp step: DRP steps, LRG takes a new code, SGM judges the gap, and PSQ hears "A at zero" (R100 to R102,
R141). -/
def State.rampStep (s : State) : State :=
  let d := s.drp.step s.cfg.slewUp s.cfg.slewDown s.cfg.slewCut
  let s1 := { s with drp := { d with stepTimer := s.drp.stepTimer.reload 10 } }.handCodeIf s.drp.applied
  s1.judgeGap.handZero

/-- A chopper period begins (R88 to R91). -/
def Bch.startPeriod (b : Bch) (rating deadTime : Nat) : Bch :=
  let duty := dutyOf b.chopperInForce rating
  let dumpLength := dumpLengthOf duty deadTime
  { b with inPeriod := true, count := 0, duty := duty, dumpLength := dumpLength, dump := dumpAt dumpLength 0,
           clamp := clampAt dumpLength deadTime 0 }

/-- The next count of a chopper period (R88, R91). -/
def Bch.nextCount (b : Bch) (deadTime : Nat) : Bch :=
  { b with count := b.count + 1, dump := dumpAt b.dumpLength (b.count + 1),
           clamp := clampAt b.dumpLength deadTime (b.count + 1) }

/-- RAMP_STEP (R100 to R102, R141). -/
def execRampStep (s : State) : Host.Outcome State Fault Refusal :=
  s.event (s.drp.stepTimer.due s.now) State.rampStep

/-- GROUP_START (R108, R111): every 125 µs from the 1 ms tick, from READY on. -/
def execGroupStart (s : State) : Host.Outcome State Fault Refusal :=
  s.event (s.isReady && s.tmb.onTap 1024) fun s => { s with lrg := s.lrg.startGroup }

/-- PWM_COUNT (R108, R110): a crystal count within a group; the count that begins a group is GROUP_START's
(DEDUCED, log entry 14). -/
def execPwmCount (s : State) : Host.Outcome State Fault Refusal :=
  s.event (s.isReady && !s.tmb.onTap 1024) fun s => { s with lrg := s.lrg.nextCount }

/-- CHOPPER_PERIOD_START (R88 to R92): a 1 ms tick while RUNNING. -/
def execChopperPeriodStart (s : State) : Host.Outcome State Fault Refusal :=
  s.event (s.bch.running && s.tmb.onTick) fun s =>
    { s with bch := s.bch.startPeriod s.cfg.chopperRating s.cfg.deadTime }

/-- CHOPPER_COUNT (R88, R91): a chopper count within a period; the 1 ms tick begins the next one
(DEDUCED, log entry 14). -/
def execChopperCount (s : State) : Host.Outcome State Fault Refusal :=
  s.event (s.bch.running && s.bch.inPeriod && decide (s.bch.count < 255) && s.tmb.onTap 32 && !s.tmb.onTick) fun s =>
    { s with bch := s.bch.nextCount s.cfg.deadTime }

end Sys2Proof.Machine
end

