-- ==== Sys2Proof/Machine/Measurement.lean ====
section
/-! DEFINITION. The measurement family (R70 to R80). Commands CONVERSION_PAIR_START, VOLTAGE_CONVERSION_COMPLETION,
CURRENT_CONVERSION_COMPLETION. -/

namespace Sys2Proof.Machine

/-! ## The conversion in flight (R71) -/

/-- Whether a voltage conversion is in flight (R70). -/
def AdcState.isVoltage : AdcState → Bool
  | .voltage _ => true
  | .idle | .current _ => false

/-- Whether a current conversion is in flight (R70). -/
def AdcState.isCurrent : AdcState → Bool
  | .current _ => true
  | .idle | .voltage _ => false

/-- When the conversion in flight began. -/
def AdcState.since : AdcState → Option Instant
  | .idle => none
  | .voltage since | .current since => some since

/-- The crystal cycles that fit within the 40 µs of a conversion (R71): 327, of 8,192 to the millisecond (R166). Log
entry 23. -/
def conversionCycles : Nat := 327

/-- Whether the conversion in flight has run as long as it can (R71). -/
def State.conversionRunsOut (s : State) : Bool :=
  (s.msu.adc.since.map fun since => decide (conversionCycles ≤ (s.instant - since).toNat)).getD false

/-! ## Samples and judgements -/

/-- A sample joins a ring; at a count of 16 the oldest leaves (R75). -/
def Ring.push (r : Ring) (sample : Int) : Ring :=
  if r.samples.length < 16 then { samples := r.samples ++ [sample], sum := r.sum + sample }
  else { samples := r.samples.drop 1 ++ [sample], sum := r.sum - r.samples.headD 0 + sample }

/-- The average of a ring: its sum over its count, rounded toward minus infinity (R76). -/
def Ring.average (r : Ring) : Int := r.sum / (r.samples.length : Int)

/-- The collapse state after a voltage average (R80). -/
def collapseAfter (img : Image) (before : Bool) (vAvg : Nat) : Bool :=
  if before then decide (vAvg < img.vFloor) else decide (vAvg < img.vCollapse)

/-- A voltage sample: the ring, V_avg and the collapse state; a change of the collapse state is an event at DRP (R73,
R76, R80, R98). The current conversion of the pair begins at the same event (R71). -/
def State.takeVoltage (s : State) (volts : Nat) : State :=
  let ring := s.msu.voltage.push volts
  let vAvg := ring.average.toNat
  let collapse := collapseAfter s.cfg s.msu.collapse vAvg
  let s1 := { s with msu := { s.msu with adc := .current s.instant, voltage := ring, vAvg := vAvg, collapse := collapse } }
  if collapse = s.msu.collapse then s1 else s1.recompose false

/-- The overdraw bound: A + margin (Section 4.5). -/
def State.overdrawBound (s : State) : Int := ((s.drp.applied + s.cfg.overdrawMargin : Nat) : Int)

/-- The judgement of a current average while the overdraw state is CLEAR (R77). -/
def State.judgeClear (s : State) : State :=
  if s.overdrawBound < s.msu.iAvg then
    let since := s.msu.overSince.getD s.now
    if 200 ≤ elapsed s.now since then
      { s with msu := { s.msu with overdraw := true, overSince := none, underSince := none } }.raiseCause .overdraw
    else { s with msu := { s.msu with overSince := some since } }
  else { s with msu := { s.msu with overSince := none } }

/-- The judgement of a current average while the overdraw state is RAISED (R78). -/
def State.judgeRaised (s : State) : State :=
  if s.msu.iAvg ≤ s.overdrawBound then
    let since := s.msu.underSince.getD s.now
    if 1000 ≤ elapsed s.now since then
      { s with msu := { s.msu with overdraw := false, underSince := none } }.clearCause .overdraw
    else { s with msu := { s.msu with underSince := some since } }
  else { s with msu := { s.msu with underSince := none } }

/-- A current sample: the ring, I_avg and the overdraw judgement (R74, R76 to R78). -/
def State.takeCurrent (s : State) (current : Int) : State :=
  let ring := s.msu.current.push current
  let s1 := { s with msu := { s.msu with adc := .idle, current := ring, iAvg := ring.average } }
  if s.msu.overdraw then s1.judgeRaised else s1.judgeClear

/-- Whether a pair starts at this moment: at a 1 ms tick after READY, or after the RESTART, that finds the sequencer
IDLE (R71, R82, R171). -/
def State.startsPair (s : State) : Bool :=
  s.isReady && s.tmb.onTick && s.msu.adc == .idle && decide (s.msu.runsFrom ≠ some s.instant)

/-- CONVERSION_PAIR_START (R71): MSU starts the voltage conversion of a new pair. -/
def execConversionPairStart (s : State) : Host.Outcome State Fault Refusal :=
  s.event s.startsPair fun s => { s with msu := { s.msu with adc := .voltage s.instant, runsFrom := none } }

/-- VOLTAGE_CONVERSION_COMPLETION (R71, R73): the conversion in flight completes, and the current conversion starts. -/
def execVoltageConversionCompletion (code : BitVec 12) (s : State) : Host.Outcome State Fault Refusal :=
  s.event s.msu.adc.isVoltage fun s => s.takeVoltage (voltsOfCode code)

/-- CURRENT_CONVERSION_COMPLETION (R71, R74): the conversion in flight completes, and the pair is done. -/
def execCurrentConversionCompletion (code : BitVec 12) (s : State) : Host.Outcome State Fault Refusal :=
  s.event s.msu.adc.isCurrent fun s => s.takeCurrent (currentOfCode code)

end Sys2Proof.Machine
end

