-- ==== Sys2Proof/Machine/Panto.lean ====
section
/-! DEFINITION. The pantograph family (R113 to R129). Commands CONTACT_LOSS, CONTACT_RETURN, DOWN_LIMIT, FILTER_EDGE,
the six state-timer expiries, RING_ADVANCE and CONTACT_STROBE; and PSQ's answer to a PANTO request. Rows that name one
outcome of a filter edge: DEDUCED, log entry 16. -/

namespace Sys2Proof.Machine

/-! ## PANTO requests (R126) -/

/-- PSQ's three answers to a request (R126). -/
inductive PantoAnswer where
  | taken
  | noChange
  | refused
  deriving DecidableEq, Repr

/-- The answer to RAISE in each state (R126). -/
def PsqState.raiseAnswer : PsqState → PantoAnswer
  | .stowed => .taken
  | .raising | .precharge | .engaged | .dropout | .gapCoast => .noChange
  | .cutting | .discharge | .retracting | .stuck => .refused

/-- The answer to LOWER in each state (R126). -/
def PsqState.lowerAnswer : PsqState → PantoAnswer
  | .raising | .precharge | .engaged | .dropout | .gapCoast => .taken
  | .stowed | .cutting | .discharge | .retracting | .stuck => .noChange

/-- PSQ takes a LOWER (R126). -/
def State.lowerTaken (s : State) : State :=
  match s.psq.state with
  | .raising => s.enterRetracting
  | .engaged => s.enterCutting
  | .precharge | .dropout | .gapCoast => s.enterPsq .discharge
  | .stowed | .cutting | .discharge | .retracting | .stuck => s

/-! ## Edges, timers and the ring -/

/-- An edge of one filter's clock; where it accepts a new level, that event is within it (R116). -/
def State.filterEdge (s : State) (input : FilterId) (level : Bool) : State :=
  match input with
  | .contact => s.contactEdge level
  | .upLimit => s.upLimitEdge level
  | .downLimit => s.downLimitEdge level

/-- Whether the state timer expires in this state (R115). -/
def State.timerExpires (s : State) (st : PsqState) : Bool := s.psq.state == st && s.psq.stateTimer.due s.now

/-- The raise timeout (R119). -/
def State.raiseTimedOut (s : State) : State := (s.setSticky .raiseFail).enterRetracting

/-- The precharge time's expiry (R120): ENGAGED, or DISCHARGE with LINK_SILENT where the stow condition stands. -/
def State.prechargeDone (s : State) : State :=
  if s.dlk.stow then (s.setSticky .linkSilent).enterPsq .discharge else s.enterPsq .engaged

/-- The reacquire time's expiry (R123). -/
def State.reacquireTimedOut (s : State) : State := (s.setSticky .dropoutTimeout).enterPsq .discharge

/-- The retract timeout (R125). -/
def State.retractTimedOut (s : State) : State := (s.setSticky .stuckUp).enterPsq .stuck

/-- The ring advance timer's expiry (R128, R129): the current bucket closes, the arc sum is compared in ENGAGED and
CUTTING, and the ring advances. -/
def State.ringAdvances (s : State) : State :=
  let s1 := { s with psq := { s.psq with ringTimer := s.psq.ringTimer.reload 125 } }
  let s2 := if s.psq.state.closed then s1.compareArc else s1
  s2.withPsq s2.psq.advanceRing

/-! ## Commands -/

/-- CONTACT_LOSS (R116, R121): the contact filter's edge that accepts "no contact". -/
def execContactLoss (s : State) : Host.Outcome State Fault Refusal :=
  s.event (s.onFilterEdge .contact && s.psq.contact.accepts false) fun s => s.contactEdge false

/-- CONTACT_RETURN (R116, R119): the contact filter's edge that accepts "contact". -/
def execContactReturn (s : State) : Host.Outcome State Fault Refusal :=
  s.event (s.onFilterEdge .contact && s.psq.contact.accepts true) fun s => s.contactEdge true

/-- DOWN_LIMIT (R116, R125): the down-limit filter's edge that accepts the limit. -/
def execDownLimit (s : State) : Host.Outcome State Fault Refusal :=
  s.event (s.onFilterEdge .downLimit && s.psq.downLimit.accepts true) fun s => s.downLimitEdge true

/-- FILTER_EDGE (R116). -/
def execFilterEdge (input : FilterId) (level : Bool) (s : State) : Host.Outcome State Fault Refusal :=
  s.event (s.onFilterEdge input) fun s => s.filterEdge input level

/-- RAISE_TIMEOUT (R119). -/
def execRaiseTimeout (s : State) : Host.Outcome State Fault Refusal :=
  s.event (s.timerExpires .raising) State.raiseTimedOut

/-- PRECHARGE_EXPIRY (R120). -/
def execPrechargeExpiry (s : State) : Host.Outcome State Fault Refusal :=
  s.event (s.timerExpires .precharge) State.prechargeDone

/-- REACQUIRE_EXPIRY (R123). -/
def execReacquireExpiry (s : State) : Host.Outcome State Fault Refusal :=
  s.event (s.timerExpires .dropout) State.reacquireTimedOut

/-- COAST_EXPIRY (R124). -/
def execCoastExpiry (s : State) : Host.Outcome State Fault Refusal :=
  s.event (s.timerExpires .gapCoast) fun s => s.enterPsq .discharge

/-- DISCHARGE_EXPIRY (R125). -/
def execDischargeExpiry (s : State) : Host.Outcome State Fault Refusal :=
  s.event (s.timerExpires .discharge) State.enterRetracting

/-- RETRACT_TIMEOUT (R125). -/
def execRetractTimeout (s : State) : Host.Outcome State Fault Refusal :=
  s.event (s.timerExpires .retracting) State.retractTimedOut

/-- RING_ADVANCE (R128, R129). -/
def execRingAdvance (s : State) : Host.Outcome State Fault Refusal :=
  s.event (s.psq.ringTimer.due s.now) State.ringAdvances

/-- CONTACT_STROBE (R127): a contact strobe in ENGAGED or CUTTING. A strobe that coincides with the entry to ENGAGED and
is taken after it counts as the next strobe. DESIGN CHOICE, log entry 32. -/
def execContactStrobe (contact : Bool) (s : State) : Host.Outcome State Fault Refusal :=
  s.event (s.psq.state.closed && s.tmb.onTap 512) fun s =>
    { s with psq := s.psq.contactSample contact s.cfg.bounceMax }

end Sys2Proof.Machine
end

