-- ==== Sys2Proof/Machine/Link.lean ====
section
/-! DEFINITION. The drive-link family (R155 to R164). Commands BYTE_RECEIVED, the eight frame ends (DEMAND,
PANTO_RAISE, PANTO_LOWER, PANTO_BAD_VALUE, GAP, QUERY, RESTART, FRAME_DROPPED), SILENCE_TIMER_EXPIRY,
STOW_TIMER_EXPIRY, LIMIT_TIMER_EXPIRY and TRANSMITTER_FREE. -/

namespace Sys2Proof.Machine

/-! ## Receiving (R156, R157) -/

/-- A byte, received at this moment, joins the receive buffer while it holds fewer than 16; one that finds it full is
discarded and sets the overlong mark; a framing error sets the byte-error mark (R156). -/
def RxBuffer.push (rx : RxBuffer) (byte : Byte) (framingError : Bool) (now : Instant) : RxBuffer :=
  let marked := { rx with byteError := rx.byteError || framingError, receiving := false, lastEnd := some now }
  if rx.bytes.length < 16 then { marked with bytes := rx.bytes ++ [byte] } else { marked with overlong := true }

/-- What a moment of a byte's arrival does to the receive buffer (R156). -/
def RxBuffer.take (rx : RxBuffer) (byte : Byte) (now : Instant) : ByteMoment → RxBuffer
  | .begins => { rx with receiving := true }
  | .ends framingError => rx.push byte framingError now

/-- Whether the line has been idle for more than two byte times after the last stop bit (R156): 20 bits of 569
synthesis clocks, 8 to the crystal cycle (R166). -/
def RxBuffer.idle (rx : RxBuffer) (now : Instant) : Bool :=
  !rx.receiving && match rx.lastEnd with
    | none => false
    | some e => decide (20 * 569 < 8 * (now - e).toNat)

/-- The rows of the table at which a frame ends. -/
inductive FrameRow where
  | demand
  | pantoRaise
  | pantoLower
  | pantoBadValue
  | gap
  | query
  | restart
  | dropped
  deriving DecidableEq, Repr

/-- The row of the frame that a buffer holds: by its type and, for PANTO, by its request byte; a frame that fails the
first three checks of R157, or bears another type, is FRAME_DROPPED's (log entry 13). -/
def RxBuffer.row (rx : RxBuffer) : FrameRow :=
  match rx.frame with
  | none => .dropped
  | some (frameType, payload) =>
    if frameType = typeDemand then .demand
    else if frameType = typePanto then
      match payload.head? with
      | some request =>
        if request = 1 then .pantoRaise else if request = 2 then .pantoLower else .pantoBadValue
      | none => .pantoBadValue
    else if frameType = typeGap then .gap
    else if frameType = typeQuery then .query
    else if frameType = typeRestart then .restart
    else .dropped

/-- Checks 4 to 6 of R157, in order: the reason of the first that fails. -/
def State.frameRefusal (s : State) (frameType : Byte) (payload : List Byte) : Option RefuseReason :=
  if !s.isReady && frameType != typeQuery then some .state
  else match requiredLength frameType with
    | none => some .unknownType
    | some n => if payload.length = n then none else some .badLength

/-- A dropped frame is counted (R157). -/
def State.dropFrame (s : State) : State := { s with dlk := { s.dlk with dropped := saturate 255 s.dlk.dropped } }

/-- The buffer is emptied and both marks are cleared (R156). -/
def State.clearBuffer (s : State) : State := { s with dlk := { s.dlk with rx := .empty } }

/-- The frame end (R156, R157): the checks in order, then what a frame that passes them does, then the buffer is
emptied. -/
def State.examine (s : State) (act : List Byte → State → State) : State :=
  let s1 := match s.dlk.rx.frame with
    | none => s.dropFrame
    | some (frameType, payload) =>
      match s.frameRefusal frameType payload with
      | some reason => s.refuse frameType reason
      | none => act payload s
  s1.clearBuffer

/-- Whether the frame of one row ends at this moment: the buffer holds bytes, the line has been idle for more than two
byte times, and the frame is that row's (R156). -/
def State.frameEnds (s : State) (row : FrameRow) : Bool :=
  !s.dlk.rx.bytes.isEmpty && s.dlk.rx.idle s.instant && decide (s.dlk.rx.row = row)

/-- A frame end of one row (R156, R157). -/
def State.frameEnd (s : State) (row : FrameRow) (act : List Byte → State → State) :
    Host.Outcome State Fault Refusal :=
  s.event (s.frameEnds row) fun s => s.examine act

/-! ## What the frames do (R158 to R160) -/

/-- A DEMAND is taken (R158). -/
def State.takeDemand (s : State) (cls : TruckClass) (demand offer : Nat) : State :=
  let own : OwnRecord := { cls := cls, demand := min demand s.cfg.rated, offer := min offer s.cfg.rated }
  let s1 := { s with dlk := { s.dlk with
    own := own, silence := false, stow := false, silenceTimer := .start s.now s.cfg.silenceTime,
    stowTimer := .start s.now s.cfg.stowTime } }
  if s.dlk.silence then s1.recompose false else s1

/-- The value check of DEMAND, and its effect (R158). -/
def State.demandFrame (payload : List Byte) (s : State) : State :=
  match TruckClass.ofCode (numberOfBytes (slice payload 0 1)) with
  | none => s.refuse typeDemand .badClass
  | some cls => s.takeDemand cls (numberOfBytes (slice payload 1 2)) (numberOfBytes (slice payload 3 2))

/-- A PANTO RAISE is passed to PSQ and answered (R126, R160). -/
def State.raiseFrame (s : State) : State :=
  match s.psq.state.raiseAnswer with
  | .taken => s.enterPsq .raising
  | .noChange => s.triggerStatus
  | .refused => s.refuse typePanto .state

/-- A PANTO LOWER is passed to PSQ and answered (R126, R160). -/
def State.lowerFrame (s : State) : State :=
  match s.psq.state.lowerAnswer with
  | .taken => s.lowerTaken
  | .noChange => s.triggerStatus
  | .refused => s.refuse typePanto .state

/-- A GAP frame, clamped, is passed to SGM (R140, R160). -/
def State.gapTaken (payload : List Byte) (s : State) : State :=
  s.gapFrame (gapDistance (numberOfBytes (slice payload 0 2))) (gapSpeed (numberOfBytes (slice payload 2 2)))

/-- A RESTART reset (R155, R170, R171): every block but TMB and CFL takes its RESTART values; the timers wait for the
symbol strobe at or next after this event. PSQ's ring advance timer runs on (R113). DEDUCED, log entry 20. -/
def State.restarted (s : State) (raw : RawInputs) : State :=
  { s with
    startAt := some s.tmb.strobe, crx := .atReset, ntx := .atReset .idle, ptb := .atReset, sre := .atReset,
    cfm := .atReset, msu := { Msu.atReset with runsFrom := some s.instant }, drp := .atReset, lrg := .atReset,
    bch := .atReset, psq := .atReset raw s.psq.ringTimer, sgm := .atReset, dlk := .atReset .restart }

/-- A RESTART frame is taken in STOWED and refused in any other state (R160). -/
def State.restartFrame (raw : RawInputs) (s : State) : State :=
  if s.psq.state = .stowed then s.restarted raw else s.refuse typeRestart .state

/-! ## Timers and the transmitter (R159, R161, R162) -/

/-- Link silence comes into force, and DRP's link cap becomes 0 (R159). -/
def State.beginSilence (s : State) : State :=
  let s1 := { s with dlk := { s.dlk with silence := true, silenceTimer := none } }
  (s1.setSticky .linkSilent).recompose false

/-- The stow condition comes to stand, and in ENGAGED PSQ enters CUTTING with LINK_SILENT (R121, R159). -/
def State.standStow (s : State) : State :=
  let s1 := { s with dlk := { s.dlk with stow := true, stowTimer := none } }
  if s.psq.state = .engaged then (s1.setSticky .linkSilent).enterCutting else s1

/-- A LIMIT frame is composed into the LIMIT buffer, replacing any frame still there (R162). -/
def State.composeLimit (s : State) : State :=
  { s with dlk := { s.dlk with limitTimer := s.dlk.limitTimer.reload 20, limitBuffer := some s.limitFrame } }

/-- The transmitter returns to IDLE (R161). -/
def State.endSending (s : State) : State := { s with dlk := { s.dlk with sending := none } }

/-! ## Commands -/

/-- BYTE_RECEIVED (R156), in every loader state. -/
def execByteReceived (byte : Byte) (moment : ByteMoment) (s : State) : Host.Outcome State Fault Refusal :=
  s.event true fun s => { s with dlk := { s.dlk with rx := s.dlk.rx.take byte s.instant moment } }

/-- DEMAND (R157, R158). -/
def execDemand (s : State) : Host.Outcome State Fault Refusal := s.frameEnd .demand State.demandFrame

/-- PANTO_RAISE (R126, R157, R160). -/
def execPantoRaise (s : State) : Host.Outcome State Fault Refusal :=
  s.frameEnd .pantoRaise fun _ s => s.raiseFrame

/-- PANTO_LOWER (R126, R157, R160). -/
def execPantoLower (s : State) : Host.Outcome State Fault Refusal :=
  s.frameEnd .pantoLower fun _ s => s.lowerFrame

/-- PANTO_BAD_VALUE (R157, R160). -/
def execPantoBadValue (s : State) : Host.Outcome State Fault Refusal :=
  s.frameEnd .pantoBadValue fun _ s => s.refuse typePanto .badValue

/-- GAP (R140, R157, R160). -/
def execGap (s : State) : Host.Outcome State Fault Refusal := s.frameEnd .gap State.gapTaken

/-- QUERY (R157, R160), taken in every loader state. -/
def execQuery (s : State) : Host.Outcome State Fault Refusal := s.frameEnd .query fun _ s => s.triggerStatus

/-- RESTART (R157, R160, R170). -/
def execRestart (raw : RawInputs) (s : State) : Host.Outcome State Fault Refusal :=
  s.frameEnd .restart fun _ s => s.restartFrame raw

/-- FRAME_DROPPED (R157): dropped and counted, or refused with STATE or UNKNOWN_TYPE. -/
def execFrameDropped (s : State) : Host.Outcome State Fault Refusal := s.frameEnd .dropped fun _ s => s

/-- SILENCE_TIMER_EXPIRY (R159). -/
def execSilenceTimerExpiry (s : State) : Host.Outcome State Fault Refusal :=
  s.event (s.dlk.silenceTimer.due s.now) State.beginSilence

/-- Whether the stow timer expires: it has run out, and link silence is in force, without which the stow condition
never stands (R159). Where both timers run out at one tick, the stow timer's expiry so waits for the silence timer's:
DEDUCED, log entry 39. It then also waits for a DEMAND frame end of that moment, which the part queues with the silence
timer's: DESIGN CHOICE, log entry 40. -/
def State.stowExpires (s : State) : Bool := s.dlk.silence && s.dlk.stowTimer.due s.now

/-- STOW_TIMER_EXPIRY (R159, R121). -/
def execStowTimerExpiry (s : State) : Host.Outcome State Fault Refusal :=
  s.event s.stowExpires State.standStow

/-- LIMIT_TIMER_EXPIRY (R162). -/
def execLimitTimerExpiry (s : State) : Host.Outcome State Fault Refusal :=
  s.event (s.dlk.limitTimer.due s.now) State.composeLimit

/-- Whether the frame being sent is at its end (R161). -/
def State.sendingEnds (s : State) : Bool :=
  match s.dlk.sending with
  | none => false
  | some f => reached s.instant f.endsAt

/-- TRANSMITTER_FREE (R161): the transmitter returns to IDLE, and chooses the next frame. -/
def execTransmitterFree (s : State) : Host.Outcome State Fault Refusal :=
  s.event s.sendingEnds State.endSending

end Sys2Proof.Machine
end

