-- ==== Sys2Proof/Machine/TimeBase.lean ====
section
/-! DEFINITION. The time base, loader and reset family (R166 to R171): commands POWER_ON, PIN_RESET, RESET_END,
SPI_READ_COMPLETION, LOADER_RETRY_EXPIRY, READY, RESTART_TIMER_START; what an idle moment does; and the pins. -/

namespace Sys2Proof.Machine

/-! ## Loader and start of work -/

/-- CFL enters HALTED (R169): the lower command is driven while the accepted down-limit is false (R118), and the
loader state's change is a STATUS trigger. DEDUCED, log entry 19. -/
def State.halt (s : State) (reason : HaltReason) : State :=
  { s with
    cfl := { s.cfl with loader := .halted, haltReason := reason },
    psq := { s.psq with actuator := if s.psq.downLimit.accepted then .idle else .lower } }.triggerStatus

/-- CFL judges a read that has completed (R167, R168). -/
def State.judgeBlock (s : State) (block : List Byte) : State :=
  let s1 := { s with cfl := { s.cfl with reading := false } }
  if blockCrcAgrees block then
    let img := Image.ofBlock block
    if img.valid then { s1 with cfl := { s1.cfl with image := some img, readyAt := some s.tmb.strobe } }
    else s1.halt .range
  else if s.cfl.retryFlag then s1.halt .crc
  else { s1 with cfl := { s1.cfl with retryFlag := true, retryTimer := .start s.now 100 } }

/-- The notice, ramp step, sweep and LIMIT timers and the first pilot window start together (R17, R38, R99, R133, R162,
R171). -/
def State.startTimers (s : State) : State :=
  { s with
    ntx := { s.ntx with noticeTimer := .start s.now s.cfg.period },
    drp := { s.drp with stepTimer := .start s.now 10 },
    ptb := { s.ptb with sweepTimer := .start s.now 50 },
    dlk := { s.dlk with limitTimer := .start s.now 20 },
    crx := { s.crx with pilotEnd := .start s.now 100 } }

/-- The blocks begin their work at READY (R16, R118, R171). -/
def State.enterReady (s : State) : State :=
  let s1 := { s with
    cfl := { s.cfl with loader := .ready, readyAt := none },
    msu := { s.msu with runsFrom := some s.instant } }.triggerStatus
  let s2 := s1.startTimers
  let s3 := s2.withNtx { s2.ntx with state := .idle }
  if s3.psq.downLimit.accepted then s3 else s3.enterRetracting

/-! ## Commands -/

/-- POWER_ON (R170): the whole part is held in reset. -/
def execPowerOn (s : State) : Host.Outcome State Fault Refusal :=
  .next (.heldInReset .powerOn s.fresh s.pending)

/-- PIN_RESET (R170): the whole part is held in reset; the recorded cause is POWER_ON where the supply was below 2.9 V
while the pin held the part. DESIGN CHOICE, log entry 23. -/
def execPinReset (supplyDipped : Bool) (s : State) : Host.Outcome State Fault Refusal :=
  .next (.heldInReset (if supplyDipped then .powerOn else .pin) s.fresh s.pending)

/-- RESET_END (R113, R166, R167): the reset has held every block at its reset values until now. The tick count is 0,
the filters take their raw levels, the ring advance timer starts, and CFL enters LOADING and starts the first read. -/
def execResetEnd (raw : RawInputs) (s : State) : Host.Outcome State Fault Refusal :=
  if s.held then
    .next { State.heldInReset s.dlk.resetCause s.fresh s.pending with
      held := false, cfl := { Cfl.atReset with reading := true }, psq := .atReset raw (.start 0 125) }
  else .next s

/-- SPI_READ_COMPLETION (R167, R168), while a read of the 112 bytes is in progress. -/
def execSpiReadCompletion (block : List Byte) (s : State) : Host.Outcome State Fault Refusal :=
  s.event (s.cfl.loader == .loading && s.cfl.reading && block.length == blockLength) fun s => s.judgeBlock block

/-- LOADER_RETRY_EXPIRY (R167): the whole block is read again. -/
def execLoaderRetryExpiry (s : State) : Host.Outcome State Fault Refusal :=
  s.event (s.cfl.loader == .loading && s.cfl.retryTimer.due s.now) fun s =>
    { s with cfl := { s.cfl with retryTimer := none, reading := true } }

/-- READY (R168, R171): the symbol strobe at or next after a successful load. -/
def execReady (s : State) : Host.Outcome State Fault Refusal :=
  s.event (s.cfl.loader == .loading && s.cfl.image.isSome && s.cfl.readyAt.due s.now) State.enterReady

/-- RESTART_TIMER_START (R171): the symbol strobe at or next after a RESTART. -/
def execRestartTimerStart (s : State) : Host.Outcome State Fault Refusal :=
  s.event (s.isReady && s.startAt.due s.now) fun s => { s with startAt := none }.startTimers

/-! ## Idle moments: the crystal runs (R166) -/

/-- The raw levels of the discrete inputs at a moment at which no sender has given them: free values (R113; log entry
23). -/
def State.unreadInputs (s : State) : RawInputs :=
  { contact := Config.rawContact s.fresh, upLimit := Config.rawUpLimit s.fresh,
    downLimit := Config.rawDownLimit s.fresh }

/-- The converter's code at a completion that no sender has sent: a free value (R73, R74; log entry 23). -/
def State.unreadCode (s : State) : BitVec 12 := Config.conversionCode s.fresh

/-- The events that are due at this moment and that the part takes without a sender: those of timers and strobes, the
frame ends (R156), and the completion of a conversion at the end of its 40 µs (R71, R72). RESTART's raw levels of the
inputs (R113) and a completion's code are free here (log entry 23). -/
def State.dueEvents (s : State) : List Instr :=
  [ (s.cfl.loader == .loading && s.cfl.retryTimer.due s.now, Instr.loaderRetryExpiry),
    (s.cfl.loader == .loading && s.cfl.image.isSome && s.cfl.readyAt.due s.now, .ready),
    (s.isReady && s.startAt.due s.now, .restartTimerStart),
    (s.ntx.noticeTimer.due s.now, .noticeTimerExpiry),
    (s.ntx.state == .sending && decide (s.ntx.symbolIndex < 79) && s.ntx.symbolEnds.due s.now, .symbolStrobe),
    (s.ntx.state == .sending && s.ntx.symbolIndex == 79 && s.ntx.symbolEnds.due s.now, .noticeCompletion),
    (s.ptb.sweepTimer.due s.now, .sweep),
    (s.drp.stepTimer.due s.now, .rampStep),
    (s.timerExpires .raising, .raiseTimeout),
    (s.timerExpires .precharge, .prechargeExpiry),
    (s.timerExpires .dropout, .reacquireExpiry),
    (s.timerExpires .gapCoast, .coastExpiry),
    (s.timerExpires .discharge, .dischargeExpiry),
    (s.timerExpires .retracting, .retractTimeout),
    (s.psq.ringTimer.due s.now, .ringAdvance),
    (s.sgm.rejoinTimer.due s.now, .rejoinExpiry),
    (s.countdownOut, .countdownRunOut),
    (s.sgm.graceTimer.due s.now, .graceExpiry),
    (s.dlk.silenceTimer.due s.now, .silenceTimerExpiry),
    (s.stowExpires, .stowTimerExpiry),
    (s.dlk.limitTimer.due s.now, .limitTimerExpiry),
    (s.sendingEnds, .transmitterFree),
    (s.frameEnds .demand, .demand),
    (s.frameEnds .pantoRaise, .pantoRaise),
    (s.frameEnds .pantoLower, .pantoLower),
    (s.frameEnds .pantoBadValue, .pantoBadValue),
    (s.frameEnds .gap, .gap),
    (s.frameEnds .query, .query),
    (s.frameEnds .restart, .restart s.unreadInputs),
    (s.frameEnds .dropped, .frameDropped),
    (s.msu.adc.isVoltage && s.conversionRunsOut, .voltageConversionCompletion s.unreadCode),
    (s.msu.adc.isCurrent && s.conversionRunsOut, .currentConversionCompletion s.unreadCode),
    ((s.sre.round.map (fun r => decide (4 ≤ elapsed s.now r.startedAt))).getD false, .roundCompletion) ].filterMap
      (fun p => if p.1 then some p.2 else none)

/-- The events of the taps that this moment brings, from READY on (R71, R88, R108). -/
def State.tapEvents (s : State) : List Instr :=
  if s.isReady then
    (if s.tmb.onTap 1024 then [Instr.groupStart] else [.pwmCount]) ++
      (if s.tmb.onTick then [.conversionPairStart, .chopperPeriodStart]
       else if s.tmb.onTap 32 then [.chopperCount] else [])
  else []

/-- Events that fall at one moment, in an order that the manual leaves open: each is put in at a place that a free
value chooses (R42, R69, R83, R95, R112, R131, R144, R154, R165). -/
def arrange : Nat → List Instr → List Instr
  | _, [] => []
  | _, [c] => [c]
  | n, c :: cs => (arrange (n + 1) cs).insertIdx (Config.order n % (cs.length + 1)) c

/-- Queue the events of this moment. -/
def State.queueEvents (s : State) (events : List Instr) : State :=
  { s with pending := s.pending ++ arrange s.fresh events, fresh := s.fresh + events.length }

/-- The next crystal cycle; every 8,192nd is a 1 ms tick (R166). -/
def Tmb.advance (t : Tmb) : Tmb :=
  { phase := t.phase + 1, tick := if t.phase = 8191 then t.tick + 1 else t.tick }

/-- The tone divider over one crystal cycle, 8 synthesis clocks: it toggles the output each time it has counted N+1,
and takes the half-period count of the symbol then keyed (R3; DESIGN CHOICE, log entry 11). -/
def ToneDivider.advance (d : ToneDivider) (keyedHalf : Nat) : ToneDivider :=
  if d.half ≤ d.count + 8 then { half := keyedHalf, count := d.count + 8 - d.half, level := !d.level }
  else { d with count := d.count + 8 }

/-- The divider runs while a notice is keyed (R3, R4). It is advanced before the events of the moment that the cycle
ends at, so a toggle that falls exactly at a symbol strobe takes the half-period of the symbol that ends there. DESIGN
CHOICE, log entry 29. -/
def State.runDivider (s : State) : State :=
  if s.ntx.state = .sending then
    { s with ntx := { s.ntx with divider := s.ntx.divider.advance s.keyedHalfPeriod } }
  else s

/-- An idle moment (R166, log entry 2): the events that are due are queued; where none is, the crystal advances by one
cycle, and the events of the new moment are queued. While a reset is held the time base does not run (R170). The tone
divider is advanced ahead of those events: DESIGN CHOICE, log entry 29. -/
def State.idle (s : State) : State :=
  if s.held then s
  else if s.dueEvents.isEmpty then
    let s1 := s.runDivider.withTmb s.tmb.advance
    s1.queueEvents (s1.tapEvents ++ s1.dueEvents)
  else s.queueEvents s.dueEvents

/-! ## Pins (R4, R91, R110, R114, R161, R170) -/

/-- The drive-link transmit line while a frame is sent: for each byte a start bit (low), eight data bits from the
least significant, and a stop bit (R156, R172). -/
def Sending.line (f : Sending) (now : Instant) : Bool :=
  let bit := (now - f.startedAt).toNat * 8 / 569
  match f.frame.bytes[bit / 10]? with
  | none => true
  | some byte => if bit % 10 = 0 then false else if bit % 10 = 9 then true else byte.getLsbD (bit % 10 - 1)

/-- The output pins of the part (Section 11.5). -/
structure Pins where
  contactor : Bool
  precharge : Bool
  discharge : Bool
  raise     : Bool
  lower     : Bool
  dump      : Bool
  clamp     : Bool
  limitRef  : Bool
  carrierOn : Bool
  carrier   : Bool
  transmit  : Bool
  spiSelect : Bool
  deriving DecidableEq, Repr

/-- The levels of the output pins. The blocks' reset values keep every power-stage output inactive while a reset is
held (R170); the carrier is driven only in SENDING (R18). While it carries no tone (R4, R170) its output stands low:
DESIGN CHOICE, log entry 37. -/
def State.pins (s : State) : Pins :=
  { contactor := s.psq.contactor, precharge := s.psq.precharge, discharge := s.psq.discharge,
    raise := s.psq.actuator == .raise, lower := s.psq.actuator == .lower, dump := s.bch.dump,
    clamp := s.bch.clamp, limitRef := s.lrg.output, carrierOn := s.ntx.state == .sending,
    carrier := s.ntx.state == .sending && s.ntx.divider.level,
    transmit := (s.dlk.sending.map (fun f => f.line s.instant)).getD true, spiSelect := s.cfl.reading }

end Sys2Proof.Machine
end

