-- ==== Sys2Proof/Machine/Dispatch.lean ====
section
/-! DEFINITION. The dispatch: one arm for each command of spec/opcode_table.json, each one call of its meaning. -/

namespace Sys2Proof.Machine

/-- What a command does to everything but the queue. -/
def exec (i : Instr) (s : State) : Host.Outcome State Fault Refusal :=
  match i with
  | .powerOn => Sys2Proof.Machine.execPowerOn s
  | .pinReset supplyDipped => Sys2Proof.Machine.execPinReset supplyDipped s
  | .spiReadCompletion block => Sys2Proof.Machine.execSpiReadCompletion block s
  | .loaderRetryExpiry => Sys2Proof.Machine.execLoaderRetryExpiry s
  | .ready => Sys2Proof.Machine.execReady s
  | .restartTimerStart => Sys2Proof.Machine.execRestartTimerStart s
  | .noticeTimerExpiry => Sys2Proof.Machine.execNoticeTimerExpiry s
  | .noticeCompletion => Sys2Proof.Machine.execNoticeCompletion s
  | .syncEntry ch => Sys2Proof.Machine.execSyncEntry ch s
  | .frameAbandon ch => Sys2Proof.Machine.execFrameAbandon ch s
  | .noticeReceived ch mark => Sys2Proof.Machine.execNoticeReceived ch mark s
  | .sweep => Sys2Proof.Machine.execSweep s
  | .roundCompletion => Sys2Proof.Machine.execRoundCompletion s
  | .conversionPairStart => Sys2Proof.Machine.execConversionPairStart s
  | .voltageConversionCompletion code => Sys2Proof.Machine.execVoltageConversionCompletion code s
  | .currentConversionCompletion code => Sys2Proof.Machine.execCurrentConversionCompletion code s
  | .chopperPeriodStart => Sys2Proof.Machine.execChopperPeriodStart s
  | .groupStart => Sys2Proof.Machine.execGroupStart s
  | .rampStep => Sys2Proof.Machine.execRampStep s
  | .contactLoss => Sys2Proof.Machine.execContactLoss s
  | .contactReturn => Sys2Proof.Machine.execContactReturn s
  | .downLimit => Sys2Proof.Machine.execDownLimit s
  | .raiseTimeout => Sys2Proof.Machine.execRaiseTimeout s
  | .prechargeExpiry => Sys2Proof.Machine.execPrechargeExpiry s
  | .reacquireExpiry => Sys2Proof.Machine.execReacquireExpiry s
  | .coastExpiry => Sys2Proof.Machine.execCoastExpiry s
  | .dischargeExpiry => Sys2Proof.Machine.execDischargeExpiry s
  | .retractTimeout => Sys2Proof.Machine.execRetractTimeout s
  | .ringAdvance => Sys2Proof.Machine.execRingAdvance s
  | .pilotWindowEnd aboveThroughout meanMilliHz => Sys2Proof.Machine.execPilotWindowEnd aboveThroughout meanMilliHz s
  | .rejoinExpiry => Sys2Proof.Machine.execRejoinExpiry s
  | .countdownRunOut => Sys2Proof.Machine.execCountdownRunOut s
  | .graceExpiry => Sys2Proof.Machine.execGraceExpiry s
  | .demand => Sys2Proof.Machine.execDemand s
  | .pantoRaise => Sys2Proof.Machine.execPantoRaise s
  | .pantoLower => Sys2Proof.Machine.execPantoLower s
  | .gap => Sys2Proof.Machine.execGap s
  | .query => Sys2Proof.Machine.execQuery s
  | .restart raw => Sys2Proof.Machine.execRestart raw s
  | .frameDropped => Sys2Proof.Machine.execFrameDropped s
  | .silenceTimerExpiry => Sys2Proof.Machine.execSilenceTimerExpiry s
  | .stowTimerExpiry => Sys2Proof.Machine.execStowTimerExpiry s
  | .limitTimerExpiry => Sys2Proof.Machine.execLimitTimerExpiry s
  | .transmitterFree => Sys2Proof.Machine.execTransmitterFree s
  | .symbolStrobe => Sys2Proof.Machine.execSymbolStrobe s
  | .symbolBoundary change => Sys2Proof.Machine.execSymbolBoundary change s
  | .symbolDecision ch steady passing => Sys2Proof.Machine.execSymbolDecision ch steady passing s
  | .filterEdge input level => Sys2Proof.Machine.execFilterEdge input level s
  | .contactStrobe contact => Sys2Proof.Machine.execContactStrobe contact s
  | .chopperCount => Sys2Proof.Machine.execChopperCount s
  | .pwmCount => Sys2Proof.Machine.execPwmCount s
  | .byteReceived byte moment => Sys2Proof.Machine.execByteReceived byte moment s
  | .resetEnd raw => Sys2Proof.Machine.execResetEnd raw s
  | .pantoBadValue => Sys2Proof.Machine.execPantoBadValue s

end Sys2Proof.Machine
end

