-- ==== Sys2Proof/Safety.lean ====
section
/-! DEFINITION. What a sound state of the BX720 is: the laws of the device as conditions on one state, each of which
every step is to keep, and the classes of commands that the laws name. -/

namespace Sys2Proof.Machine

/-- Every step keeps a condition. -/
def KeptByEveryStep (cond : State → Prop) : Prop := ∀ s t : State, cond s → step s = .next t → cond t

/-- The commands that are resets of the whole part (R170). -/
def resets : Instr → Bool
  | .powerOn | .pinReset _ | .restart _ | .resetEnd _ => true
  | _ => false

/-- Until READY, and in HALTED, the blocks rest (R169): no carrier, no decisions, no rounds, no conversions, no timers
but the loader's and the ring advance timer, and the power stage safe with the arm never driven up. -/
structure State.AtRest (s : State) : Prop where
  startAt : s.startAt = none
  ntx : s.ntx = .atReset .off
  ptb : s.ptb = .atReset
  sre : s.sre = .atReset
  cfm : s.cfm = .atReset
  msu : s.msu = .atReset
  drp : s.drp = .atReset
  lrg : s.lrg = .atReset
  bch : s.bch = .atReset
  sgm : s.sgm = .atReset
  pilotEnd : s.crx.pilotEnd = none
  contexts : ∀ ch : Channel, { s.crx.contexts[ch] with boundary := none } = RxContext.atReset
  stowed : s.psq.state = .stowed
  powerStage : s.psq.contactor = false ∧ s.psq.precharge = false ∧ s.psq.discharge = false
  notRaised : s.psq.actuator ≠ .raise
  loadingIdle : s.cfl.loader = .loading → s.psq.actuator = .idle
  arcMonitor : s.psq.rawRun = 0 ∧ s.psq.buckets = List.replicate 8 0 ∧ s.psq.arcWarn = false
  sequencer : s.psq.stateTimer = none ∧ s.psq.retry = 0
  ownRecord : s.dlk.own = { cls := .parked, demand := 0, offer := 0 }
  silent : s.dlk.silence = true ∧ s.dlk.stow = true
  linkTimers : s.dlk.silenceTimer = none ∧ s.dlk.stowTimer = none ∧ s.dlk.limitTimer = none
  limitBuffer : s.dlk.limitBuffer = none

/-- The part rests unless the loader is READY (R169). -/
def State.QuietUnlessReady (s : State) : Prop := s.cfl.loader ≠ .ready → s.AtRest

/-- The loaded image passed the loader's checks, READY has one, and an image is only awaiting READY with no read going
on and no retry awaited (R167, R168). -/
structure State.ImageSound (s : State) : Prop where
  valid : ∀ img : Image, s.cfl.image = some img → img.valid = true
  ready : s.cfl.loader = .ready → s.cfl.image.isSome = true
  waiting : s.cfl.image.isSome = true → s.cfl.reading = false ∧ s.cfl.retryTimer = none
  reader : s.cfl.reading = true → s.cfl.retryTimer = none
  halted : s.cfl.loader = .halted ↔ s.cfl.haltReason ≠ .noReason

/-- The outputs of PSQ are those that R114 gives its state; in HALTED the lower command follows R118. -/
structure State.Interlocked (s : State) : Prop where
  contactor : s.psq.contactor = s.psq.state.closed
  precharge : s.psq.precharge = (s.psq.state == .precharge)
  discharge : s.psq.discharge = (s.psq.state == .discharge)
  actuator : s.cfl.loader ≠ .halted → s.psq.actuator = s.psq.state.actuator

/-- The chopper runs exactly in ENGAGED and CUTTING (R93), its switches are never on together (R91) and never on while
it is STOPPED, and its values in force are those of R85. -/
structure State.ChopperSound (s : State) : Prop where
  running : s.bch.running = s.psq.state.closed
  switches : (s.bch.dump && s.bch.clamp) = false
  stopped : s.bch.running = false → s.bch.dump = false ∧ s.bch.clamp = false
  inForce : (s.bch.regenInForce, s.bch.chopperInForce) = inForce s.psq.state s.sgm.cut s.sre.regen s.sre.chopper

/-- A and T lie in 0..Rt, both are 0 whenever the contactor is open, where no episode, cut or hold stands either (R97,
R101, R107), and the contactor is open until READY. -/
structure State.DrawBounded (s : State) : Prop where
  applied : s.drp.applied ≤ s.cfg.rated
  target : s.drp.target ≤ s.cfg.rated
  opened : s.psq.state.closed = false →
    s.drp.applied = 0 ∧ s.drp.target = 0 ∧ s.drp.episode = none ∧ s.drp.cut = false ∧ s.drp.hold = false
  arcWarn : s.psq.arcWarn = true → s.psq.state.closed = true
  ready : s.cfl.loader ≠ .ready → s.psq.state = .stowed

/-- DRP's caps, T, cut in force and hold are those that the live terms give (R96, R97, R98). -/
structure State.TermsAgree (s : State) : Prop where
  quiet : s.QuietUnlessReady
  caps : s.drp.caps = s.capsNow
  target : s.drp.target = s.capsNow.target s.sre.grant s.cfg.rated
  cut : s.drp.cut = s.cutNow
  hold : s.drp.hold = s.psq.arcWarn

/-- The code that LRG holds or will take at the next group is A's code (R102, R109, R111), and both codes, the frame
index and the count lie in their ranges (R108). -/
structure State.ReferenceFollows (s : State) : Prop where
  code : s.lrg.pending.getD s.lrg.current = codeOf s.drp.applied s.cfg.rated
  current : s.lrg.current ≤ 1023
  frame : s.lrg.frame < 4
  count : s.lrg.count < 256
  bounded : s.DrawBounded

/-- A record as PTB may hold it (R24): a station id of 1..254 other than the own, demand and offer of at most 400. -/
def PeerRecord.sound (r : PeerRecord) (ownId : Nat) : Prop :=
  1 ≤ r.station ∧ r.station ≤ 254 ∧ r.station ≠ ownId ∧ r.demand ≤ 400 ∧ r.offer ≤ 400 ∧ r.volts ≤ 255

/-- The peer table (R15, R24, R25): no entry on the own channel, every record sound, tallies in their ranges, and no
entry at all until READY. -/
structure State.TableSound (s : State) : Prop where
  ownChannel : s.ptb.slots[s.cfg.ownChannel] = none
  records : ∀ (ch : Channel) (e : PeerEntry), s.ptb.slots[ch] = some e →
    e.tally ≤ 15 ∧ ∀ r ∈ e.records, r.sound s.cfg.stationId
  tallies : s.ptb.foreign ≤ 255 ∧ ∀ ch : Channel, s.ptb.errors[ch] ≤ 255
  empty : s.cfl.loader ≠ .ready → ∀ ch : Channel, s.ptb.slots[ch] = none

/-- The level is never less severe than the most severe requirement of the active causes (R148). -/
def State.ConfidenceSound (s : State) : Prop := s.cfm.causes.required.severity ≤ s.cfm.level.severity

/-- The causes that NTX, SGM and MSU own stand exactly while those blocks hold their conditions (R23, R77, R78, R135 to
R139, R145). -/
structure State.CausesFollow (s : State) : Prop where
  quiet : s.QuietUnlessReady
  clash : s.cfm.causes.clash = (s.ntx.state == .muted || (s.ntx.state == .sending && s.ntx.mutePending))
  pilotLost : s.cfm.causes.pilotLost = s.sgm.lost
  rejoin : s.cfm.causes.rejoin = s.sgm.rejoinTimer.isSome
  overdraw : s.cfm.causes.overdraw = s.msu.overdraw
  sectionUnknown : s.cfm.causes.sectionUnknown =
    (s.sgm.currentCode.map (fun p => (s.cfg.sectionOf p).isNone)).getD false

/-- A ring and the average published from it (R75, R76): at most 16 samples, each in its range, their exact sum, and
the floored mean. -/
structure Ring.Sound (r : Ring) (lo hi average : Int) : Prop where
  count : r.samples.length ≤ 16
  sum : r.sum = r.samples.sum
  range : ∀ x ∈ r.samples, lo ≤ x ∧ x ≤ hi
  mean : if r.samples = [] then average = 0 else average = r.samples.sum / (r.samples.length : Int)

/-- MSU's rings and averages (R73 to R76). -/
structure State.RingsSound (s : State) : Prop where
  voltage : s.msu.voltage.Sound 0 2999 s.msu.vAvg
  current : s.msu.current.Sound (-400) 399 s.msu.iAvg

/-- A pair stays within the millisecond of its tick (R72): its voltage conversion began at the tick and its current
conversion within 40 µs of it, and neither has been in flight for more than 40 µs (327 crystal cycles). -/
structure State.PairsTimely (s : State) : Prop where
  voltage : ∀ since : Instant, s.msu.adc = .voltage since → since = s.now ++ 0#13 ∧ s.tmb.phase.toNat ≤ 327
  current : ∀ since : Instant, s.msu.adc = .current since → ∃ phase : BitVec 13, since = s.now ++ phase ∧
    phase.toNat ≤ 327 ∧ phase.toNat ≤ s.tmb.phase.toNat ∧ s.tmb.phase.toNat ≤ phase.toNat + 327

/-- The published values, and those that the round in flight can publish, stay within Rt (R43, R158). -/
structure State.PublishedSound (s : State) : Prop where
  grant : s.sre.grant ≤ s.cfg.rated
  offer : s.sre.regen + s.sre.chopper ≤ s.cfg.rated
  own : s.dlk.own.demand ≤ s.cfg.rated ∧ s.dlk.own.offer ≤ s.cfg.rated
  round : ∀ r : Round, s.sre.round = some r →
    r.snapshot.own.demand ≤ s.cfg.rated ∧ r.snapshot.own.offer ≤ s.cfg.rated
  quiet : s.QuietUnlessReady

/-- The bounce ring has eight buckets of at most 255 (R128). -/
def State.ArcRingSound (s : State) : Prop := s.psq.buckets.length = 8 ∧ ∀ b ∈ s.psq.buckets, b ≤ 255

/-- DLK's buffers and counts stay in their ranges (R155, R156, R161), an IDLE transmitter leaves no source waiting
(R161), a reset that is being held is no RESTART (R170), and the stow condition never stands without silence in force,
which comes before or with it (R159). -/
structure State.LinkSound (s : State) : Prop where
  receive : s.dlk.rx.bytes.length ≤ 16
  refusals : s.dlk.refusals.length ≤ 4
  dropped : s.dlk.dropped ≤ 255
  served : s.dlk.sending = none →
    s.dlk.limitBuffer = none ∧ s.dlk.refusals = [] ∧ s.dlk.statusPending = false
  cause : s.held = true → s.dlk.resetCause ≠ .restart
  stowed : s.dlk.stow = true → s.dlk.silence = true
  silenceFirst : s.dlk.stowTimer ≠ none → s.dlk.silence = true ∨ s.dlk.silenceTimer ≠ none

/-! ## Terms that the statements use -/

/-- Every block at the values that each of the three resets gives it, but for what the resets do not share: NTX's state,
the reset cause, STATUS pending, the filters' levels and the ring advance timer (R7, R15, R16, R41, R43, R70, R84, R96,
R108, R113, R132, R145, R155). -/
structure State.AtResetValues (s : State) : Prop where
  contexts : ∀ ch : Channel, s.crx.contexts[ch] =
    { state := .hunt, boundary := none, run := 0, window := [], syncCount := 0, body := [] }
  transmitter : s.ntx.seq = 0 ∧ s.ntx.latch = none ∧ s.ntx.symbolIndex = 0 ∧ s.ntx.echoSeen = false ∧
    s.ntx.mutePending = false ∧ s.ntx.echoFail = 0 ∧ s.ntx.quiet = 0 ∧ s.ntx.activity = false
  table : (∀ ch : Channel, s.ptb.slots[ch] = none ∧ s.ptb.errors[ch] = 0) ∧ s.ptb.foreign = 0
  rounds : s.sre =
    { round := none, grant := 0, regen := 0, chopper := 0, derated := false, published := 0, voided := 0 }
  confidence : (∀ c : Cause, s.cfm.causes.has c = decide (c = .pilotLost)) ∧ s.cfm.level = .solo ∧ s.cfm.recovery = 0
  measurement : s.msu.adc = .idle ∧ s.msu.voltage.samples = [] ∧ s.msu.voltage.sum = 0 ∧ s.msu.current.samples = [] ∧
    s.msu.current.sum = 0 ∧ s.msu.vAvg = 0 ∧ s.msu.iAvg = 0 ∧ s.msu.overdraw = false ∧ s.msu.overSince = none ∧
    s.msu.underSince = none ∧ s.msu.collapse = true
  draw : s.drp.applied = 0 ∧ s.drp.target = 0 ∧ s.drp.caps = s.capsNow ∧ s.drp.hold = false ∧ s.drp.cut = false ∧
    s.drp.episode = none ∧ s.drp.last = { ending := .noEnding, steps := 0 } ∧ s.drp.rampState = .steady
  reference : s.lrg.current = 0 ∧ s.lrg.pending = none ∧ s.lrg.frame = 0 ∧ s.lrg.count = 0 ∧ s.lrg.output = false
  chopper : s.bch.running = false ∧ s.bch.regenInForce = 0 ∧ s.bch.chopperInForce = 0 ∧ s.bch.count = 0 ∧
    s.bch.duty = 0 ∧ s.bch.dumpLength = 0 ∧ s.bch.dump = false ∧ s.bch.clamp = false
  sequencer : s.psq.state = .stowed ∧ s.psq.stateTimer = none ∧ s.psq.retry = 0 ∧ s.psq.rawRun = 0 ∧
    s.psq.buckets = [0, 0, 0, 0, 0, 0, 0, 0] ∧ s.psq.arcWarn = false ∧ s.psq.contactor = false ∧
    s.psq.precharge = false ∧ s.psq.discharge = false ∧ s.psq.actuator = .idle
  identity : s.sgm.currentCode = none ∧ s.sectionIndex = 0 ∧ s.sectionKnown = false ∧ s.sgm.lost = true ∧
    s.sgm.candidate = none ∧ s.sgm.stability = 0 ∧ s.sgm.noneCount = 0 ∧ s.sgm.rejoinTimer = none
  gap : s.sgm.phase = .disarmed ∧ s.sgm.cut = false ∧ s.sgm.countdown = none ∧ s.sgm.graceTimer = none
  link : s.dlk.rx = { bytes := [], overlong := false, byteError := false, receiving := false, lastEnd := none } ∧
    s.dlk.own = { cls := .parked, demand := 0, offer := 0 } ∧ s.dlk.silence = true ∧ s.dlk.stow = true ∧
    s.dlk.silenceTimer = none ∧ s.dlk.stowTimer = none ∧ (∀ f : StickyFault, s.dlk.sticky.has f = false) ∧
    s.dlk.dropped = 0 ∧ s.dlk.limitBuffer = none ∧ s.dlk.refusals = [] ∧ s.dlk.sending = none
  timers : s.ntx.noticeTimer = none ∧ s.drp.stepTimer = none ∧ s.ptb.sweepTimer = none ∧ s.dlk.limitTimer = none ∧
    s.crx.pilotEnd = none

/-- Outside a reset, a channel's context takes a decision at this moment: from READY on, 1 ms after its boundary and
every 2 ms after that (R7, R8). -/
def State.DecidesNow (s : State) (ch : Channel) : Prop :=
  s.held = false ∧ s.cfl.loader = .ready ∧
    ∃ b : Instant, (s.crx.contexts[ch]).boundary = some b ∧ (s.instant - b).toNat % 16384 = 8192

/-- The line has been idle for more than two byte times, 20 bits of 569 synthesis clocks, after the last stop bit of the
frame being received (R156, R166). -/
def State.LineIdle (s : State) : Prop :=
  s.dlk.rx.receiving = false ∧ ∃ e : Instant, s.dlk.rx.lastEnd = some e ∧ 20 * 569 < 8 * (s.instant - e).toNat

/-- A channel's context takes at this moment the decision that brings its 64th bit (R11). -/
structure State.CompletesRecord (s : State) (ch : Channel) (mark : Bool) (bits : List Bool) : Prop where
  decides : s.DecidesNow ch
  body : (s.crx.contexts[ch]).state = .body
  last : (s.crx.contexts[ch]).body.length = 63
  bits : bits = (s.crx.contexts[ch]).body ++ [mark]

/-- The 64 bits pass the CRC test and the two field tests and spell this notice (R12, R173). -/
structure RecordPasses (bits : List Bool) (n : Notice) : Prop where
  crc : (crcOfBits (bits.take 48)).toNat = numberMsb (bits.drop 48)
  notice : n = Notice.ofBody (bits.take 48)
  station : n.station ≠ 0 ∧ n.station ≠ 255
  cls : n.cls.toNat ≤ 5

/-- The part when a record has been completed on a channel, before the record's check: the context is back in HUNT,
with its alternation run and its bit count at 0 (R11). -/
def State.recordTaken (s : State) (ch : Channel) (mark : Bool) : State :=
  s.withContext ch { s.crx.contexts[ch] with
    state := .hunt, run := 0, syncCount := 0, body := [],
    window := ((s.crx.contexts[ch]).window ++ [if mark then Symbol.mark else Symbol.space]).rtake 8 }

/-- The decision that completes a record delivers this notice from a peer channel, from a station with another id, and
past the pilot comparison (R12 to R14, R28). -/
structure State.PeerDelivers (s : State) (ch : Channel) (mark : Bool) (n : Notice) : Prop where
  record : ∃ bits, s.CompletesRecord ch mark bits ∧ RecordPasses bits n
  peer : ch ≠ s.cfg.ownChannel
  station : n.station.toNat ≠ s.cfg.stationId
  pilot : s.sectionKnown = true → n.pilot = s.sectionIndex

/-- The decision that completes a record delivers this notice from the own channel: the own echo, or a foreign
station's notice past the pilot comparison (R13, R14). -/
structure State.OwnDelivers (s : State) (ch : Channel) (mark : Bool) (n : Notice) : Prop where
  record : ∃ bits, s.CompletesRecord ch mark bits ∧ RecordPasses bits n
  own : ch = s.cfg.ownChannel
  pilot : n.station.toNat ≠ s.cfg.stationId → s.sectionKnown = true → n.pilot = s.sectionIndex

end Sys2Proof.Machine
end

