-- ==== Sys2Proof/Certificates/Slice0/Obligations.lean ====
section
/-! DEFINITION. The statements for the provers. Each docstring names the rule of spec/ that a statement formalises, or
says that it is the model's choice and names its log entry. A meaning's effect is followed by the transmitter's choice
(`State.settle`), which `Obligations.TransmitterServesByPriority` gives. -/

open Sys2Proof Sys2Proof.Machine

/-! ## The step, idle moments and resets -/

/-- A step takes the command at the front of the queue, and what a command does leaves the rest of the queue alone. The
queue is the model's own (log entry 1). -/
def Obligations.StepTakesTheFrontCommand : Prop :=
  ∀ (c : Instr) (rest : List Instr) (s : State),
    step { s with pending := c :: rest } = exec c { s with pending := rest } ∧
    ∀ t : State, exec c { s with pending := rest } = .next t → t.pending = rest

/-- An idle moment (log entry 2): where events are due they are queued; where none is, the crystal advances by one cycle
(R166), the divider of a notice being sent counts 8 synthesis clocks and takes the keyed tone's half-period where it
toggles (R3, R4; log entries 11 and 29), and the events that the new moment brings are queued. A timer's event is due
exactly where the timer has run out, a frame end where the line has been idle long enough (R156), a conversion's
completion where it has run 40 µs, 327 crystal cycles (R71), and a tap's event exactly on its tap. The order of
coinciding events is free (log entry 4), so the statement gives the queue up to a permutation, for every value of the
free order; the raw levels of a RESTART and the code of a completion that no sender has sent are free too, drawn at the
counter before the step (log entry 23). The model's choices besides: which command a frame end is (log entry 13);
that a group start is no PWM_COUNT, nor a tick a CHOPPER_COUNT (log entry 14); that a round's completion is queued at
4 ms (log entry 25); and that the stow timer's expiry waits for silence (log entry 39), and so for a DEMAND frame end of
the moment at which both timers run out (log entry 40). -/
def Obligations.IdleMomentsRunTheCrystal : Prop :=
  (∀ s : State, s.pending = [] → s.held = false → ∃ t : State, step s = .next t ∧
    (s.dueEvents ≠ [] →
      t.pending.Perm s.dueEvents ∧ t = { s with pending := t.pending, fresh := t.fresh }) ∧
    (s.dueEvents = [] →
      t.instant = s.instant + 1 ∧ t.pending.Perm (t.tapEvents ++ { t with fresh := s.fresh }.dueEvents) ∧
      t = { s with
        tmb := t.tmb, ntx := { s.ntx with divider := t.ntx.divider }, pending := t.pending, fresh := t.fresh } ∧
      (s.ntx.state ≠ .sending → t.ntx.divider = s.ntx.divider) ∧
      (s.ntx.state = .sending →
        let d := s.ntx.divider
        let mark : Bool := ((s.ntx.latch.map Notice.frame).getD []).getD s.ntx.symbolIndex false
        let keyed : Nat := 60000 + 4000 * s.cfg.ownChannel.val + if mark then 2000 else 0
        (d.count + 8 < d.half → t.ntx.divider = { d with count := d.count + 8 }) ∧
        (d.half ≤ d.count + 8 →
          t.ntx.divider = { half := halfPeriod keyed, count := d.count + 8 - d.half, level := !d.level })))) ∧
  (∀ f : Nat, 0 < f → 2 * f * halfPeriod f ≤ 65536000 + f ∧ 65536000 + f < 2 * f * (halfPeriod f + 1)) ∧
  (∀ (s : State) (c : Instr),
    let due (t : Timer) : Prop := ∃ expiry : Tick, t = some expiry ∧ reached s.now expiry = true
    let ends (p : Byte × List Byte → Prop) : Prop :=
      s.dlk.rx.bytes ≠ [] ∧ s.LineIdle ∧ ∃ f, s.dlk.rx.frame = some f ∧ p f
    s.dueEvents.Nodup ∧
    (c ∈ s.dueEvents ↔ match c with
      | .loaderRetryExpiry => s.cfl.loader = .loading ∧ due s.cfl.retryTimer
      | .ready => s.cfl.loader = .loading ∧ s.cfl.image.isSome = true ∧ due s.cfl.readyAt
      | .restartTimerStart => s.cfl.loader = .ready ∧ due s.startAt
      | .noticeTimerExpiry => due s.ntx.noticeTimer
      | .symbolStrobe => s.ntx.state = .sending ∧ s.ntx.symbolIndex < 79 ∧ due s.ntx.symbolEnds
      | .noticeCompletion => s.ntx.state = .sending ∧ s.ntx.symbolIndex = 79 ∧ due s.ntx.symbolEnds
      | .sweep => due s.ptb.sweepTimer
      | .rampStep => due s.drp.stepTimer
      | .raiseTimeout => s.psq.state = .raising ∧ due s.psq.stateTimer
      | .prechargeExpiry => s.psq.state = .precharge ∧ due s.psq.stateTimer
      | .reacquireExpiry => s.psq.state = .dropout ∧ due s.psq.stateTimer
      | .coastExpiry => s.psq.state = .gapCoast ∧ due s.psq.stateTimer
      | .dischargeExpiry => s.psq.state = .discharge ∧ due s.psq.stateTimer
      | .retractTimeout => s.psq.state = .retracting ∧ due s.psq.stateTimer
      | .ringAdvance => due s.psq.ringTimer
      | .rejoinExpiry => due s.sgm.rejoinTimer
      | .countdownRunOut => (s.sgm.phase = .approach ∨ s.sgm.phase = .cut) ∧ s.sgm.graceTimer = none ∧
          ∃ g : Countdown, s.sgm.countdown = some g ∧ g.timeToGap ≤ (s.now - g.loadedAt).toNat
      | .graceExpiry => due s.sgm.graceTimer
      | .silenceTimerExpiry => due s.dlk.silenceTimer
      | .stowTimerExpiry => s.dlk.silence = true ∧ due s.dlk.stowTimer
      | .limitTimerExpiry => due s.dlk.limitTimer
      | .transmitterFree => ∃ f : Sending, s.dlk.sending = some f ∧ reached s.instant f.endsAt = true
      | .roundCompletion => ∃ r : Round, s.sre.round = some r ∧ 4 ≤ (s.now - r.startedAt).toNat
      | .demand => ends (fun f => f.1 = 17)
      | .pantoRaise => ends (fun f => f.1 = 18 ∧ f.2.head? = some 1)
      | .pantoLower => ends (fun f => f.1 = 18 ∧ f.2.head? = some 2)
      | .pantoBadValue => ends (fun f => f.1 = 18 ∧ f.2.head? ≠ some 1 ∧ f.2.head? ≠ some 2)
      | .gap => ends (fun f => f.1 = 19)
      | .query => ends (fun f => f.1 = 20)
      | .restart raw => ends (fun f => f.1 = 21) ∧ raw.contact = Config.rawContact s.fresh ∧
          raw.upLimit = Config.rawUpLimit s.fresh ∧ raw.downLimit = Config.rawDownLimit s.fresh
      | .voltageConversionCompletion code => code = Config.conversionCode s.fresh ∧
          ∃ since : Instant, s.msu.adc = .voltage since ∧ 327 ≤ (s.instant - since).toNat
      | .currentConversionCompletion code => code = Config.conversionCode s.fresh ∧
          ∃ since : Instant, s.msu.adc = .current since ∧ 327 ≤ (s.instant - since).toNat
      | .frameDropped => s.dlk.rx.bytes ≠ [] ∧ s.LineIdle ∧
          ∀ f, s.dlk.rx.frame = some f → f.1.toNat < 17 ∨ 21 < f.1.toNat
      | _ => False) ∧
    (c ∈ s.tapEvents ↔ s.cfl.loader = .ready ∧ match c with
      | .groupStart => s.tmb.phase.toNat % 1024 = 0
      | .pwmCount => s.tmb.phase.toNat % 1024 ≠ 0
      | .conversionPairStart | .chopperPeriodStart => s.tmb.phase = 0
      | .chopperCount => s.tmb.phase ≠ 0 ∧ s.tmb.phase.toNat % 32 = 0
      | _ => False))

/-- While a POWER_ON or PIN reset is held, no other command acts and the time base stands still (R170; that such a
command changes nothing is log entry 3). For a RESTART frame end that meets a held PIN reset, on which R165 speaks both
ways, that is the model's choice, log entry 30. -/
def Obligations.HeldResetTakesOnlyResets : Prop :=
  ∀ s : State, s.held = true →
    (s.pending = [] → step s = .next s) ∧
    ∀ c : Instr, c ≠ .powerOn → (∀ dip : Bool, c ≠ .pinReset dip) → (∀ raw : RawInputs, c ≠ .resetEnd raw) →
      exec c s = .next s

/-- What POWER_ON, PIN_RESET and RESET_END leave: every block's reset values, the recorded cause, and while the reset is
held every output inactive (R167, R170, Section 11.4); at its end the tick count is 0, the filters hold the raw levels,
the ring advance timer runs and CFL reads the block. What the tick and the filters hold before the end is log entry 10;
that LRG's count within the period is 0 is the model's choice, log entry 27, and so is that the quiet carrier output
stands low, log entry 37. -/
def Obligations.PowerAndPinResets : Prop :=
  ∀ s : State,
    (∃ t : State, exec .powerOn s = .next t ∧ t.AtResetValues ∧ t.held = true ∧ t.ntx.state = .off ∧
      t.dlk.resetCause = .powerOn ∧ t.dlk.statusPending = false ∧ t.cfl.image = none ∧
      t.pins = { contactor := false, precharge := false, discharge := false, raise := false, lower := false,
                 dump := false, clamp := false, limitRef := false, carrierOn := false, carrier := false,
                 transmit := true, spiSelect := false }) ∧
    (∀ dip : Bool, ∃ t : State, exec (.pinReset dip) s = .next t ∧ t.AtResetValues ∧ t.held = true ∧
      t.ntx.state = .off ∧ t.dlk.resetCause = (if dip then .powerOn else .pin) ∧ t.dlk.statusPending = false ∧
      t.cfl.image = none ∧
      t.pins = { contactor := false, precharge := false, discharge := false, raise := false, lower := false,
                 dump := false, clamp := false, limitRef := false, carrierOn := false, carrier := false,
                 transmit := true, spiSelect := false }) ∧
    (∀ raw : RawInputs, s.held = true → ∃ t : State, exec (.resetEnd raw) s = .next t ∧ t.AtResetValues ∧
      t.held = false ∧ t.ntx.state = .off ∧ t.dlk.resetCause = s.dlk.resetCause ∧
      (s.dlk.resetCause ≠ .restart → t.dlk.statusPending = false) ∧ t.tmb.tick = 0 ∧ t.tmb.phase = 0 ∧
      t.psq.contact = { accepted := raw.contact, previous := raw.contact } ∧
      t.psq.upLimit = { accepted := raw.upLimit, previous := raw.upLimit } ∧
      t.psq.downLimit = { accepted := raw.downLimit, previous := raw.downLimit } ∧ t.psq.ringTimer = some 125 ∧
      t.cfl = { loader := .loading, haltReason := .noReason, retryFlag := false, retryTimer := none, reading := true,
                image := none, readyAt := none })

/-- RESTART (R155, R160, R170, R171): taken in STOWED it resets every block but TMB and CFL, and the timers start at the
symbol strobe at or next after the frame end; in any other state it is refused with STATE. That LRG's count within the
period is 0 after it is the model's choice, log entry 27. -/
def Obligations.RestartResets : Prop :=
  ∀ (s : State) (raw : RawInputs), s.held = false → s.cfl.loader = .ready →
    (s.LineIdle → s.dlk.rx.frame = some (21, []) →
      (s.psq.state = .stowed → ∃ (u : State) (at' : Tick), exec (.restart raw) s = .next u.settle ∧
        u.AtResetValues ∧ u.held = false ∧ u.ntx.state = .idle ∧ u.dlk.resetCause = .restart ∧
        u.dlk.statusPending = true ∧ u.tmb = s.tmb ∧ u.cfl = s.cfl ∧ u.psq.ringTimer = s.psq.ringTimer ∧
        u.psq.contact = { accepted := raw.contact, previous := raw.contact } ∧
        u.psq.upLimit = { accepted := raw.upLimit, previous := raw.upLimit } ∧
        u.psq.downLimit = { accepted := raw.downLimit, previous := raw.downLimit } ∧
        u.msu.runsFrom = some s.instant ∧ u.startAt = some at' ∧ at'.toNat % 2 = 0 ∧
        ((at' ++ 0#13 : Instant) - s.instant).toNat < 16384) ∧
      (s.psq.state ≠ .stowed →
        exec (.restart raw) s = .next (State.settle { s.refuse 21 .state with
          dlk := { (s.refuse 21 .state).dlk with rx := .empty } }))) ∧
    (∀ due : Tick, s.startAt = some due → reached s.now due = true →
      exec .restartTimerStart s = .next (State.settle { s with
        startAt := none,
        ntx := { s.ntx with noticeTimer := some (s.now + BitVec.ofNat 32 s.cfg.period) },
        drp := { s.drp with stepTimer := some (s.now + 10) },
        ptb := { s.ptb with sweepTimer := some (s.now + 50) },
        dlk := { s.dlk with limitTimer := some (s.now + 20) },
        crx := { s.crx with pilotEnd := some (s.now + 100) } }))

/-- The transmitter's choice at the end of every event (R161): a frame in progress is never interrupted; otherwise the
LIMIT buffer is served first, then the oldest refusal, then STATUS, which reports what its owners hold, PTB's counts
among it (R37), and whose composition empties what it reports (R15, R163). The PSQ state (R117) and the
level (R145) are taken with STATUS; that its bytes show neither is the model's choice, log entry 31. A frame of n bytes
takes 10 n bits of 569 synthesis clocks (R166), rounded up to a crystal cycle (log entry 12). -/
def Obligations.TransmitterServesByPriority : Prop :=
  ∀ s : State,
    let entries : List PeerEntry := (List.finRange 16).filterMap (fun ch => s.ptb.slots[ch])
    let live : List PeerRecord := (entries.flatMap (fun e => e.primary :: e.contender.toList)).filter
      (fun r => decide (r.freshness s.cfg s.now ≠ .stale))
    let report : StatusFrame := {
      resetCause := s.dlk.resetCause, loader := s.cfl.loader, haltReason := s.cfl.haltReason, causes := s.cfm.causes,
      sticky := s.dlk.sticky, sectionKnown := s.sectionKnown, sectionIndex := s.sectionIndex,
      entryCount := entries.length,
      contestedCount := entries.countP (fun e => decide (e.contender ≠ none)),
      reducedCount := live.countP (fun r => r.flags.guarded || r.flags.solo),
      deratedCount := live.countP (fun r => r.flags.derated),
      errorSum := ((List.finRange 16).map (fun ch => s.ptb.errors[ch])).sum, foreign := s.ptb.foreign,
      transmitter := s.ntx.state, ownSeq := s.ntx.seq, dropped := s.dlk.dropped, published := s.sre.published,
      voided := s.sre.voided, last := s.drp.last, sequencer := s.psq.state, level := s.cfm.level }
    let sends (u : State) (frame : OutFrame) : State :=
      { u with dlk := { u.dlk with sending := some {
          frame := frame, startedAt := s.instant,
          endsAt := s.instant + BitVec.ofNat 45 ((569 * 10 * frame.bytes.length + 7) / 8) } } }
    (s.dlk.sending ≠ none → s.settle = s) ∧
    (s.dlk.sending = none →
      (∀ f, s.dlk.limitBuffer = some f →
        s.settle = sends { s with dlk := { s.dlk with limitBuffer := none } } (.limit f)) ∧
      (s.dlk.limitBuffer = none →
        (∀ ty reason rest, s.dlk.refusals = (ty, reason) :: rest →
          s.settle = sends { s with dlk := { s.dlk with refusals := rest } } (.refuse ty reason)) ∧
        (s.dlk.refusals = [] →
          (s.dlk.statusPending = false → s.settle = s) ∧
          (s.dlk.statusPending = true →
            s.settle = sends { s with
              dlk := { s.dlk with
                statusPending := false, dropped := 0,
                sticky := { raiseFail := false, prechargeFail := false, arcTrip := false, linkSilent := false,
                            dropoutTimeout := false, stuckUp := false, falseGap := false,
                            idSeenElsewhere := false } },
              ptb := { s.ptb with foreign := 0, errors := Vector.replicate 16 0 } } (.status report))))) ∧
    (s.held = false →
      (∀ f : Sending, s.dlk.sending = some f → reached s.instant f.endsAt = true →
        exec .transmitterFree s = .next (State.settle { s with dlk := { s.dlk with sending := none } })) ∧
      (∀ due : Tick, s.dlk.limitTimer = some due → reached s.now due = true →
        exec .limitTimerExpiry s = .next (State.settle { s with dlk := { s.dlk with
          limitTimer := some (due + 20),
          limitBuffer := some {
            applied := s.drp.applied, target := s.drp.target, grant := s.sre.grant, regen := s.bch.regenInForce,
            chopper := s.bch.chopperInForce, ramp := s.drp.rampState, sequencer := s.psq.state,
            level := s.cfm.level, vAvg := s.msu.vAvg, iAvg := s.msu.iAvg, collapse := s.msu.collapse } } })))

/-- What a completed read does (R167, R168), the ranges and orderings that the loader checks (R168, Section 11.3), and
the second read that the retry timer starts. The fields of a block are `Obligations.NoticesAndFramesReadBack`'s. -/
def Obligations.LoaderJudgesTheBlock : Prop :=
  (∀ i : Image,
    let clock (f : Nat) : Prop := f = 1 ∨ f = 4 ∨ f = 16
    let within (n lo hi : Nat) : Prop := lo ≤ n ∧ n ≤ hi
    i.valid = true ↔
      within i.stationId 1 254 ∧ within i.period 200 500 ∧ i.period % 10 = 0 ∧ within i.staleLimit 3 8 ∧
      within i.rated 50 400 ∧ i.guardPercent ≤ 50 ∧ i.soloShare ≤ i.rated ∧ i.auxDraw ≤ 20 ∧
      within i.lossyThreshold 1 60 ∧ within i.voltWindow 50 1000 ∧ within i.recoveryRounds 1 16 ∧
      within i.vCollapse 500 2000 ∧ i.vCollapse < i.vFloor ∧ i.vFloor < i.vStart ∧ i.vStart ≤ i.vTaper ∧
      i.vTaper < i.vCut ∧ i.vCut ≤ 3000 ∧ within i.overdrawMargin 5 100 ∧ within i.slewUp 1 50 ∧
      within i.slewDown 1 100 ∧ within i.slewCut 5 200 ∧ within i.chopperRating 10 400 ∧ within i.deadTime 1 16 ∧
      within i.raiseTimeout 2000 15000 ∧ within i.retractTimeout 2000 15000 ∧ within i.prechargeTime 100 1000 ∧
      within i.reacquireTime 100 2000 ∧ within i.coastMaximum 2000 30000 ∧ within i.dischargeTime 50 500 ∧
      clock i.contactClock ∧ clock i.upClock ∧ clock i.downClock ∧ within i.bounceMax 1 32 ∧
      within i.arcWarn 1 2039 ∧ within i.arcTrip 2 2040 ∧ i.arcWarn < i.arcTrip ∧ within i.pilotTimeout 300 5000 ∧
      i.gapMargin ≤ 2000 ∧ within i.gapGrace 500 10000 ∧ within i.silenceTime 20 500 ∧ within i.stowTime 500 10000 ∧
      within i.sectionCount 1 8 ∧
      (∀ r ∈ i.sections, r.pilot ≤ 7 ∧ within r.capacity 50 2000 ∧ r.reserve ≤ 200 ∧ r.accept ≤ 100 ∧
        r.absorb ≤ 100) ∧
      i.sections.Pairwise (fun r other => r.pilot ≠ other.pilot)) ∧
  (∀ (s : State), s.held = false → s.cfl.loader = .loading →
    (∀ block : List Byte, s.cfl.reading = true → block.length = 112 →
      let agrees := (crcOfBytes (block.take 110)).toNat = numberOfBytes (block.drop 110)
      let halted (reason : HaltReason) : State := { s with
        cfl := { s.cfl with reading := false, loader := .halted, haltReason := reason },
        psq := { s.psq with actuator := if s.psq.downLimit.accepted then .idle else .lower },
        dlk := { s.dlk with statusPending := true } }
      (agrees → (Image.ofBlock block).valid = true → ∃ due : Tick,
        exec (.spiReadCompletion block) s = .next (State.settle { s with
          cfl := { s.cfl with reading := false, image := some (Image.ofBlock block), readyAt := some due } }) ∧
        due.toNat % 2 = 0 ∧ ((due ++ 0#13 : Instant) - s.instant).toNat < 16384) ∧
      (agrees → (Image.ofBlock block).valid = false →
        exec (.spiReadCompletion block) s = .next (halted .range).settle) ∧
      (¬agrees → s.cfl.retryFlag = true → exec (.spiReadCompletion block) s = .next (halted .crc).settle) ∧
      (¬agrees → s.cfl.retryFlag = false →
        exec (.spiReadCompletion block) s = .next (State.settle { s with
          cfl := { s.cfl with reading := false, retryFlag := true, retryTimer := some (s.now + 100) } }))) ∧
    (∀ due : Tick, s.cfl.retryTimer = some due → reached s.now due = true →
      exec .loaderRetryExpiry s = .next (State.settle { s with
        cfl := { s.cfl with retryTimer := none, reading := true } })))

/-- READY (R82, R118, R168, R171): NTX goes to IDLE, the periodic timers and the first pilot window start together, MSU
awaits the first tick after this event, and PSQ stays STOWED on the down-limit or retracts. -/
def Obligations.BlocksBeginAtReady : Prop :=
  ∀ (s : State) (img : Image) (due : Tick), s.held = false → s.cfl.loader = .loading → s.cfl.image = some img →
    s.cfl.readyAt = some due → reached s.now due = true →
    let started : State := { s with
      cfl := { s.cfl with loader := .ready, readyAt := none }, msu := { s.msu with runsFrom := some s.instant },
      ntx := { s.ntx with state := .idle, noticeTimer := some (s.now + BitVec.ofNat 32 img.period) },
      drp := { s.drp with stepTimer := some (s.now + 10) },
      ptb := { s.ptb with sweepTimer := some (s.now + 50) },
      dlk := { s.dlk with limitTimer := some (s.now + 20), statusPending := true },
      crx := { s.crx with pilotEnd := some (s.now + 100) } }
    (s.psq.downLimit.accepted = true → exec .ready s = .next started.settle) ∧
    (s.psq.downLimit.accepted = false → exec .ready s = .next (started.enterPsq .retracting).settle)

/-! ## Reception, notices and the peer table -/

/-- Decisions in HUNT (R2, R8, R9): a decision is MARK or SPACE where that tone alone has a component above the
threshold throughout and within 500 Hz of it, and NONE otherwise; a change of the tone content is taken as a boundary,
the alternation run follows the decisions, and the run's sixth decision enters SYNC, which sets NTX's activity flag on
the own channel while it is MUTED (R23). SYNC_ENTRY is that sixth decision (log entry 16); that both tones at once are
no tone content is read from the decisions (log entry 34); and boundaries are taken before READY as after it (log entry
15). -/
def Obligations.HuntDecisions : Prop :=
  ∀ (s : State) (ch : Channel), (s.crx.contexts[ch]).state = .hunt →
    let c := s.crx.contexts[ch]
    let near (f tone : Nat) : Prop := 1000 * tone ≤ f + 500000 ∧ f ≤ 1000 * tone + 500000
    let space : Nat := 60000 + 4000 * ch.val
    let previous := c.window.getLast?
    let follows (d : Symbol) : Bool :=
      (d == .mark && previous == some .space) || (d == .space && previous == some .mark)
    let run (d : Symbol) : Nat := if d = .silent then 0 else if follows d then c.run + 1 else 1
    let entered (d : Symbol) : State := s.withContext ch { c with
      state := .sync, run := 6, syncCount := 0, window := (c.window ++ [d]).rtake 8 }
    let noted (u : State) : State :=
      if ch = s.cfg.ownChannel ∧ s.ntx.state = .muted then { u with ntx := { s.ntx with activity := true } } else u
    (s.held = false → ∀ before after : List Nat,
      let mark (l : List Nat) : Prop := ∃ f ∈ l, near f (space + 2000)
      let low (l : List Nat) : Prop := ∃ f ∈ l, near f space
      let same : Prop := ((mark before ∧ ¬low before) ↔ (mark after ∧ ¬low after)) ∧
        ((low before ∧ ¬mark before) ↔ (low after ∧ ¬mark after))
      (¬same → exec (.symbolBoundary { channel := ch, before := before, after := after }) s =
        .next (State.settle (s.withContext ch { c with boundary := some s.instant }))) ∧
      (same → exec (.symbolBoundary { channel := ch, before := before, after := after }) s = .next s)) ∧
    (s.DecidesNow ch →
      (∀ (steady passing : List Component) (d : Symbol),
        let present (tone : Nat) : Prop :=
          ∃ k ∈ steady, near k.lowest tone ∧ near k.highest tone
        (d = .mark ↔ present (space + 2000) ∧ ¬present space) →
        (d = .space ↔ present space ∧ ¬present (space + 2000)) →
        Symbol.ofComponents ch steady = d ∧
        (run d < 6 → exec (.symbolDecision ch steady passing) s =
          .next (State.settle (s.withContext ch { c with run := run d, window := (c.window ++ [d]).rtake 8 }))) ∧
        (6 ≤ run d → exec (.symbolDecision ch steady passing) s = .next (noted (entered d)).settle)) ∧
      (5 ≤ c.run → previous = some .space → exec (.syncEntry ch) s = .next (noted (entered .mark)).settle) ∧
      (5 ≤ c.run → previous = some .mark → exec (.syncEntry ch) s = .next (noted (entered .space)).settle))

/-- Decisions in SYNC and in BODY, short of the 64th bit (R10, R11, R15). What a return to HUNT leaves of the counts is
read from R9 to R11, and the alternation run after the 13th decision in SYNC is free, 0..6 (log entries 6 and 17). -/
def Obligations.SyncAndBodyDecisions : Prop :=
  ∀ (s : State) (ch : Channel) (steady passing : List Component), s.DecidesNow ch →
    let c := s.crx.contexts[ch]
    let d := Symbol.ofComponents ch steady
    let seen : List Symbol := (c.window ++ [d]).rtake 8
    let hunting (run : Nat) : State := s.withContext ch { c with
      state := .hunt, run := run, syncCount := 0, body := [], window := seen }
    let counted (u : State) : State :=
      { u with ptb := { s.ptb with errors := s.ptb.errors.set ch (min 255 (s.ptb.errors[ch] + 1)) } }
    (c.state = .sync →
      (d = .silent → exec (.symbolDecision ch steady passing) s = .next (hunting 0).settle) ∧
      (d ≠ .silent →
        let matched : Prop := seen = [.mark, .space, .mark, .mark, .space, .mark, .space, .space]
        (matched → exec (.symbolDecision ch steady passing) s =
          .next (State.settle (s.withContext ch { c with state := .body, body := [], window := seen }))) ∧
        (¬matched → c.syncCount < 12 → exec (.symbolDecision ch steady passing) s =
          .next (State.settle (s.withContext ch { c with syncCount := c.syncCount + 1, window := seen }))) ∧
        (¬matched → 12 ≤ c.syncCount → ∃ run : Nat, run ≤ 6 ∧ exec (.symbolDecision ch steady passing) s =
          .next (State.settle { hunting run with fresh := s.fresh + 1 })))) ∧
    (c.state = .body →
      (d = .silent → exec (.frameAbandon ch) s = .next (counted (hunting 0)).settle ∧
        exec (.symbolDecision ch steady passing) s = .next (counted (hunting 0)).settle) ∧
      (d ≠ .silent → c.body.length < 63 → exec (.symbolDecision ch steady passing) s =
        .next (State.settle (s.withContext ch { c with body := c.body ++ [decide (d = .mark)], window := seen }))))

/-- The check of a completed record, in its order (R12, R13, R15, R28): a failed CRC or field test counts one error; a
foreign pilot, where the section is known, counts one foreign notice, except for the own echo; a peer channel's notice
with the own station id only sets ID_SEEN_ELSEWHERE. In each case the context is back in HUNT, and nothing is delivered.
The check is the same whether NOTICE_RECEIVED or SYMBOL_DECISION names the 64th decision (log entry 16). -/
def Obligations.CompletedRecordChecks : Prop :=
  ∀ (s : State) (ch : Channel) (mark : Bool) (bits : List Bool), s.CompletesRecord ch mark bits →
    let u := s.recordTaken ch mark
    (∀ steady passing : List Component, Symbol.ofComponents ch steady = (if mark then .mark else .space) →
      exec (.symbolDecision ch steady passing) s = exec (.noticeReceived ch mark) s) ∧
    (¬(∃ n, RecordPasses bits n) → exec (.noticeReceived ch mark) s =
      .next (State.settle { u with
        ptb := { s.ptb with errors := s.ptb.errors.set ch (min 255 (s.ptb.errors[ch] + 1)) } })) ∧
    (∀ n, RecordPasses bits n →
      (s.sectionKnown = true → n.pilot ≠ s.sectionIndex →
          (ch ≠ s.cfg.ownChannel ∨ n.station.toNat ≠ s.cfg.stationId) →
        exec (.noticeReceived ch mark) s =
          .next (State.settle { u with ptb := { s.ptb with foreign := min 255 (s.ptb.foreign + 1) } })) ∧
      ((s.sectionKnown = true → n.pilot = s.sectionIndex) → ch ≠ s.cfg.ownChannel →
          n.station.toNat = s.cfg.stationId →
        exec (.noticeReceived ch mark) s =
          .next (State.settle { u with
            dlk := { s.dlk with sticky := { s.dlk.sticky with idSeenElsewhere := true } } })))

/-- The acceptance of a delivered peer notice into the place of its channel: a new entry, an update of the primary with
its loss tally, the replacement of a stale primary, a new or renewed contender, and a third station (R29 to R33). No
other entry, no tally of R15 and no other block changes. -/
def Obligations.PeerNoticeAcceptance : Prop :=
  ∀ (s : State) (ch : Channel) (mark : Bool) (n : Notice), s.PeerDelivers ch mark n →
    ∃ (r : PeerRecord) (e : PeerEntry),
      exec (.noticeReceived ch mark) s = .next (State.settle { s.recordTaken ch mark with
        ptb := { s.ptb with slots := s.ptb.slots.set ch (some e) } }) ∧
      r.station = n.station.toNat ∧ r.cls.code = n.cls.toNat ∧ r.flags = n.flags ∧ r.demand = min n.demand.toNat 400 ∧
      r.offer = min n.offer.toNat 400 ∧ r.volts = n.volts.toNat ∧ r.lastSeq = n.seq ∧ r.heardAt = s.now ∧
      (s.ptb.slots[ch] = none → e = { primary := r, tally := 0, contender := none }) ∧
      (∀ p : PeerEntry, s.ptb.slots[ch] = some p →
        (p.primary.station = r.station →
          let gap := (n.seq.toNat + 15 - p.primary.lastSeq.toNat) % 16
          e = { primary := r, tally := if gap = 0 then p.tally - 1 else min 15 (p.tally + gap),
                contender := p.contender }) ∧
        (p.primary.station ≠ r.station → p.primary.freshness s.cfg s.now = .stale →
          e = { primary := r, tally := 0, contender := none }) ∧
        (p.primary.station ≠ r.station → p.primary.freshness s.cfg s.now ≠ .stale →
          (p.contender = none → e = { p with contender := some r }) ∧
          (∀ c : PeerRecord, p.contender = some c →
            (c.station = r.station → e = { p with contender := some r }) ∧
            (c.station ≠ r.station → (s.now - c.heardAt).toNat < (s.now - p.primary.heardAt).toNat →
              e = { primary := r, tally := 0, contender := some c }) ∧
            (c.station ≠ r.station → (s.now - p.primary.heardAt).toNat ≤ (s.now - c.heardAt).toNat →
              e = { p with contender := some r }))))

/-- A delivery on the own channel (R21, R22): the echo sets the echo-seen flag; in IDLE every delivery is a clash, which
mutes at once; in SENDING a foreign station's raises CLASH and sets the mute-pending flag; in MUTED it has no effect. -/
def Obligations.OwnChannelDeliveries : Prop :=
  ∀ (s : State) (ch : Channel) (mark : Bool) (n : Notice), s.OwnDelivers ch mark n →
    let u := s.recordTaken ch mark
    let own : Prop := n.station.toNat = s.cfg.stationId
    (s.ntx.state = .idle → exec (.noticeReceived ch mark) s = .next (State.settle { u with
      ntx := { s.ntx with state := .muted, quiet := 0, activity := false, symbolEnds := none },
      cfm := s.cfm.raise .clash, dlk := { s.dlk with statusPending := true } })) ∧
    (s.ntx.state = .sending → own → s.ntx.latch.map Notice.seq = some n.seq → exec (.noticeReceived ch mark) s =
      .next (State.settle { u with ntx := { s.ntx with echoSeen := true } })) ∧
    (s.ntx.state = .sending → own → s.ntx.latch.map Notice.seq ≠ some n.seq →
      exec (.noticeReceived ch mark) s = .next u.settle) ∧
    (s.ntx.state = .sending → ¬own → exec (.noticeReceived ch mark) s = .next (State.settle { u with
      ntx := { s.ntx with mutePending := true }, cfm := s.cfm.raise .clash,
      dlk := { s.dlk with
        statusPending := s.dlk.statusPending || decide ((s.cfm.raise .clash).level ≠ s.cfm.level) } })) ∧
    (s.ntx.state = .muted → exec (.noticeReceived ch mark) s = .next u.settle)

/-- The symbol strobes of a notice and its completion (R20, R21, R23): symbols 0..78 lead to the next symbol, 2 ms
later; the end of symbol 79 mutes where a mute is pending, and otherwise judges the echo. -/
def Obligations.NoticeKeyingAndCompletion : Prop :=
  ∀ (s : State) (due : Tick), s.held = false → s.ntx.state = .sending → s.ntx.symbolEnds = some due →
    reached s.now due = true →
    let muted : Ntx := { s.ntx with state := .muted, quiet := 0, activity := false, symbolEnds := none }
    (s.ntx.symbolIndex < 79 → exec .symbolStrobe s = .next (State.settle { s with
      ntx := { s.ntx with symbolIndex := s.ntx.symbolIndex + 1, symbolEnds := some (due + 2) } })) ∧
    (s.ntx.symbolIndex = 79 →
      (s.ntx.mutePending = true → exec .noticeCompletion s = .next (State.settle { s with
        ntx := muted, dlk := { s.dlk with statusPending := true } })) ∧
      (s.ntx.mutePending = false → s.ntx.echoSeen = true → exec .noticeCompletion s = .next (State.settle { s with
        ntx := { s.ntx with state := .idle, echoFail := 0, symbolEnds := none },
        dlk := { s.dlk with statusPending := true } })) ∧
      (s.ntx.mutePending = false → s.ntx.echoSeen = false → s.ntx.echoFail = 0 →
        exec .noticeCompletion s = .next (State.settle { s with
          ntx := { s.ntx with state := .idle, echoFail := 1, symbolEnds := none },
          dlk := { s.dlk with statusPending := true } })) ∧
      (s.ntx.mutePending = false → s.ntx.echoSeen = false → 1 ≤ s.ntx.echoFail →
        exec .noticeCompletion s = .next (State.settle { s with
          ntx := { muted with echoFail := 2 }, cfm := s.cfm.raise .clash,
          dlk := { s.dlk with statusPending := true } })))

/-- The notice timer's expiry at NTX (R17 to R19, R23): in IDLE with the contact true a notice starts, with the advanced
sequence and the latch filled from the owning blocks; in MUTED the quiet count steps, and at 8 the transmitter is
unmuted and CLASH cleared. A change of the transmitter state is a STATUS trigger (R163). What the tone divider holds
besides its half-period count is free (log entry 7). -/
def Obligations.NoticeExpiryAtTransmitter : Prop :=
  ∀ (s : State) (due : Tick), s.held = false → s.ntx.noticeTimer = some due → reached s.now due = true →
    let next := due + BitVec.ofNat 32 s.cfg.period
    ∃ u : State, exec .noticeTimerExpiry s = .next u.settle ∧
      u = { s with ntx := u.ntx, cfm := u.cfm, sre := u.sre, drp := u.drp, bch := u.bch,
                   dlk := { s.dlk with
                     statusPending := s.dlk.statusPending || decide (u.ntx.state ≠ s.ntx.state) },
                   fresh := u.fresh } ∧
      (s.ntx.state = .idle → s.psq.contact.accepted = true → ∃ divider : ToneDivider,
        divider.half = halfPeriod (markTone s.cfg.ownChannel) ∧ u.cfm = s.cfm ∧
        u.ntx = { s.ntx with
          noticeTimer := some next, state := .sending, seq := s.ntx.seq + 1, symbolIndex := 0, echoSeen := false,
          mutePending := false, symbolEnds := some (s.now + 2), divider := divider,
          latch := some {
            station := BitVec.ofNat 8 s.cfg.stationId, seq := s.ntx.seq + 1,
            cls := BitVec.ofNat 3 (if s.sgm.cut then 5 else s.dlk.own.cls.code),
            flags := { guarded := s.cfm.level == .guarded, solo := s.cfm.level == .solo, derated := s.sre.derated,
                       gapArmed := s.sgm.phase != .disarmed },
            demand := if s.dlk.silence then 0 else BitVec.ofNat 9 s.dlk.own.demand,
            offer := if s.dlk.silence then 0 else BitVec.ofNat 9 s.dlk.own.offer,
            volts := BitVec.ofNat 8 (s.msu.vAvg / 12),
            pilot := if s.sectionKnown then s.sectionIndex else 0 } }) ∧
      (s.ntx.state = .idle → s.psq.contact.accepted = false →
        u.cfm = s.cfm ∧ u.ntx = { s.ntx with noticeTimer := some next }) ∧
      (s.ntx.state = .muted →
        (s.ntx.activity = true →
          u.cfm = s.cfm ∧ u.ntx = { s.ntx with noticeTimer := some next, quiet := 0, activity := false }) ∧
        (s.ntx.activity = false → s.ntx.quiet < 7 →
          u.cfm = s.cfm ∧ u.ntx = { s.ntx with noticeTimer := some next, quiet := s.ntx.quiet + 1 }) ∧
        (s.ntx.activity = false → 7 ≤ s.ntx.quiet →
          u.cfm = { s.cfm with causes := s.cfm.causes.put false .clash } ∧
          u.ntx = { s.ntx with
            noticeTimer := some next, state := .idle, quiet := 8, echoFail := 0, symbolEnds := none }))

/-- The transmitter's law (R18): an entry to SENDING is a notice timer's expiry from IDLE with the loader READY and the
debounced contact true, and advances the own sequence by one; no other command but a reset changes the sequence. -/
def Obligations.CarrierOnlyFromNoticeStarts : Prop :=
  ∀ (c : Instr) (s t : State), s.QuietUnlessReady → exec c s = .next t →
    (s.ntx.state ≠ .sending → t.ntx.state = .sending →
      c = .noticeTimerExpiry ∧ s.ntx.state = .idle ∧ s.cfl.loader = .ready ∧ s.psq.contact.accepted = true ∧
      t.ntx.seq = s.ntx.seq + 1) ∧
    (t.ntx.seq ≠ s.ntx.seq → resets c = true ∨ (s.ntx.state ≠ .sending ∧ t.ntx.state = .sending)) ∧
    (t.pins.carrierOn = true ↔ t.ntx.state = .sending)

/-- A sweep takes each entry by itself (R34, R38, R39): a record is due where it is STALE, or LEAVING with an age of at
least 1; the contender goes first, and a surviving contender takes a removed primary's place. -/
def Obligations.SweepRemovesAgedRecords : Prop :=
  ∀ (s : State) (due : Tick), s.held = false → s.ptb.sweepTimer = some due → reached s.now due = true →
    let gone (r : PeerRecord) : Prop := r.freshness s.cfg s.now = .stale ∨
      (r.cls = .leaving ∧ 1 ≤ (s.now - r.heardAt).toNat / s.cfg.period)
    ∃ slots : Vector (Option PeerEntry) 16,
      exec .sweep s = .next (State.settle { s with
        ptb := { s.ptb with slots := slots, sweepTimer := some (due + 50) } }) ∧
      ∀ ch : Channel,
        (s.ptb.slots[ch] = none → slots[ch] = none) ∧
        ∀ e : PeerEntry, s.ptb.slots[ch] = some e →
          (¬gone e.primary → e.contender = none → slots[ch] = some e) ∧
          (¬gone e.primary → ∀ c, e.contender = some c → gone c → slots[ch] = some { e with contender := none }) ∧
          (¬gone e.primary → ∀ c, e.contender = some c → ¬gone c → slots[ch] = some e) ∧
          (gone e.primary → e.contender = none → slots[ch] = none) ∧
          (gone e.primary → ∀ c, e.contender = some c → gone c → slots[ch] = none) ∧
          (gone e.primary → ∀ c, e.contender = some c → ¬gone c →
            slots[ch] = some { primary := c, tally := 0, contender := none })

/-- A record's age and state and an entry's (R26, R27): the age is the whole notice periods since the record was heard,
whatever wraps the tick count makes, and an entry's is that of whichever record was heard more recently. -/
def Obligations.StatesFollowAges : Prop :=
  ∀ (img : Image) (now : Tick), 3 ≤ img.staleLimit →
    (∀ r : PeerRecord,
      (∀ ms : Nat, ms < 2 ^ 32 → now = r.heardAt + BitVec.ofNat 32 ms → r.age img now = ms / img.period) ∧
      (r.freshness img now = .fresh ↔ r.age img now ≤ 1) ∧
      (r.freshness img now = .aging ↔ 2 ≤ r.age img now ∧ r.age img now ≤ img.staleLimit - 1) ∧
      (r.freshness img now = .stale ↔ img.staleLimit ≤ r.age img now)) ∧
    (∀ e : PeerEntry,
      (e.contender = none → e.age img now = e.primary.age img now ∧
        e.freshness img now = e.primary.freshness img now) ∧
      (∀ c : PeerRecord, e.contender = some c →
        ((now - e.primary.heardAt).toNat ≤ (now - c.heardAt).toNat →
          e.age img now = e.primary.age img now ∧ e.freshness img now = e.primary.freshness img now) ∧
        ((now - c.heardAt).toNat ≤ (now - e.primary.heardAt).toNat →
          e.age img now = c.age img now ∧ e.freshness img now = c.freshness img now) ∧
        (e.primary.freshness img now = .fresh ∨ c.freshness img now = .fresh → e.freshness img now = .fresh)))

/-- The copy of the table that a round's snapshot takes (R35, R36): the entries in ascending channel order with their
state, tally and contested indication, and under each the records that are FRESH, or AGING without GAP_ARMED, primary
first; at most 15 entries and 30 records, as no entry stands on the own channel. -/
def Obligations.RoundCopyListsTheTable : Prop :=
  ∀ s : State,
    (s.peerCopy.map CopyEntry.channel).Pairwise (· < ·) ∧
    (∀ ce : CopyEntry, ce ∈ s.peerCopy ↔ ∃ e : PeerEntry, s.ptb.slots[ce.channel] = some e ∧
      ce.freshness = e.freshness s.cfg s.now ∧ ce.tally = e.tally ∧ ce.contested = e.contender.isSome ∧
      ce.records = ((e.primary :: e.contender.toList).filter (fun r =>
          decide (r.freshness s.cfg s.now = .fresh) ||
          (decide (r.freshness s.cfg s.now = .aging) && !r.flags.gapArmed))).map (fun r =>
        { station := r.station, cls := r.cls, flags := r.flags, demand := r.demand, offer := r.offer,
          volts := r.volts, freshness := r.freshness s.cfg s.now })) ∧
    (s.ptb.slots[s.cfg.ownChannel] = none →
      s.peerCopy.length ≤ 15 ∧ (s.peerCopy.flatMap CopyEntry.records).length ≤ 30)

/-! ## Share rounds -/

/-- The notice timer's expiry at SRE (R44 to R47): in PRECHARGE and ENGAGED a round starts from a snapshot of what the
owning blocks hold, and in every other state the three published values become 0. Neither is a STATUS trigger; the
transmitter's move at the same expiry is (R163). That the tags are what stands at the expiry, after a section change at
the same moment too, is R69's, against R42: log entry 38. -/
def Obligations.NoticeExpiryAtRounds : Prop :=
  ∀ (s : State) (due : Tick), s.held = false → s.ntx.noticeTimer = some due → reached s.now due = true →
    ∃ u : State, exec .noticeTimerExpiry s = .next u.settle ∧
      u = { s with ntx := u.ntx, cfm := u.cfm, sre := u.sre, drp := u.drp, bch := u.bch,
                   dlk := { s.dlk with
                     statusPending := s.dlk.statusPending || decide (u.ntx.state ≠ s.ntx.state) },
                   fresh := u.fresh } ∧
      (s.psq.state = .precharge ∨ s.psq.state = .engaged →
        u.drp = s.drp ∧ u.bch = s.bch ∧
        ∃ snap : Snapshot,
          snap.own.cls = s.dlk.own.cls ∧ snap.own.demand = (if s.dlk.silence then 0 else s.dlk.own.demand) ∧
          snap.own.offer = (if s.dlk.silence then 0 else s.dlk.own.offer) ∧
          snap.sectionIndex = s.sectionIndex ∧ snap.sectionKnown = s.sectionKnown ∧
          snap.sectionRecord = (if s.sectionKnown then s.cfg.sectionOf s.sectionIndex else none) ∧
          snap.level = s.cfm.level ∧ snap.vAvg = s.msu.vAvg ∧ snap.peers = s.peerCopy ∧
          u.sre = { s.sre with round := some {
            snapshot := snap, startedAt := s.now,
            stations := { cls := snap.own.cls, demand := snap.own.demand, offer := snap.own.offer } ::
              snap.peers.flatMap (fun e =>
                e.records.map (fun r => { cls := r.cls, demand := r.demand, offer := r.offer })),
            tags := { sectionIndex := snap.sectionIndex, sectionKnown := snap.sectionKnown, level := snap.level },
            mode := if snap.level = .solo ∨ snap.sectionKnown = false then .solo else snap.level } }) ∧
      (s.psq.state ≠ .precharge → s.psq.state ≠ .engaged →
        u.sre = { s.sre with grant := 0, regen := 0, chopper := 0 } ∧
        u.bch = (State.refreshChopper { s with sre := u.sre }).bch ∧ u.bch.regenInForce = 0 ∧
        u.bch.chopperInForce = 0 ∧ u.drp = (State.recompose { s with sre := u.sre } false).drp)

/-- The own share (R52 to R54): outside SOLO a consumer's share is what the greatest level in 0..1023 gives it whose sum
over the consumers stays within the effective capacity, and in SOLO the least of its demand and the solo share; a
station that is no consumer has none. -/
def Obligations.OwnShareIsTheGreatestLevel : Prop :=
  ∀ (r : Round) (img : Image),
    let self := r.snapshot.self
    let bound := effectiveCapacity r.snapshot.record r.mode img.guardPercent r.stations
    let drawn (level : Nat) : Nat :=
      ((r.stations.filter (fun st => decide (0 < st.cls.weight) && decide (0 < st.demand))).map
        (fun st => min st.demand (st.cls.weight * level))).sum
    (self.consumes = false → r.share img = 0) ∧
    (self.consumes = true → r.mode = .solo → r.share img = min self.demand img.soloShare) ∧
    (self.consumes = true → r.mode ≠ .solo → ∃ level : Nat, level ≤ 1023 ∧ drawn level ≤ bound ∧
      (∀ other : Nat, other ≤ 1023 → drawn other ≤ bound → other ≤ level) ∧
      r.share img = min self.demand (self.cls.weight * level) ∧
      ((∀ st ∈ r.stations, st.demand ≤ 400) → self.demand ≤ 400 →
        ((r.stations.filter (fun st => decide (0 < st.cls.weight) && decide (0 < st.demand))).map
          Station.demand).sum ≤ bound → level = 1023 ∧ r.share img = self.demand) ∧
      (self ∈ r.stations → bound = 0 → level = 0 ∧ r.share img = 0))

/-- The regeneration credit and the effective capacity (R50, R51). -/
def Obligations.EffectiveCapacityFollowsCredit : Prop :=
  ∀ (record : SectionRecord) (guardPercent : Nat) (stations : List Station),
    let offers := ((stations.filter (fun st => decide (st.cls = .descent) && decide (0 < st.offer))).map
      Station.offer).sum
    let credit := min (offers * record.accept / 100) (record.capacity / 2)
    let e0 : Int := max 0 ((record.capacity : Int) - record.reserve + credit)
    creditOf record stations = credit ∧
    (offers = 0 → credit = 0) ∧
    (effectiveCapacity record .full guardPercent stations : Int) = e0 ∧
    (guardPercent ≤ 100 →
      (effectiveCapacity record .guarded guardPercent stations : Int) = e0 * (100 - guardPercent) / 100) ∧
    (record.capacity ≤ 2000 → ∀ mode : Level, effectiveCapacity record mode guardPercent stations ≤ 3000)

/-- The derating and the taper factor by their tables (R55, R60), and their law: both lie in 0..256, and the search's
results in 0..1023 (R60). -/
def Obligations.FactorsStayOnTheirScale : Prop :=
  (∀ vAvg vFloor vStart : Nat, vFloor < vStart →
    (vStart ≤ vAvg → deratingFactor vAvg vFloor vStart = 256) ∧
    (vAvg ≤ vFloor → deratingFactor vAvg vFloor vStart = 0) ∧
    (vFloor < vAvg → vAvg < vStart →
      (deratingFactor vAvg vFloor vStart : Int) = (vAvg - vFloor) * 256 / (vStart - vFloor)) ∧
    deratingFactor vAvg vFloor vStart ≤ 256) ∧
  (∀ vAvg vTaper vCut : Nat, vTaper < vCut →
    (vAvg ≤ vTaper → taperFactor vAvg vTaper vCut = 256) ∧
    (vCut ≤ vAvg → taperFactor vAvg vTaper vCut = 0) ∧
    (vTaper < vAvg → vAvg < vCut →
      (taperFactor vAvg vTaper vCut : Int) = (vCut - vAvg) * 256 / (vCut - vTaper)) ∧
    taperFactor vAvg vTaper vCut ≤ 256) ∧
  (∀ (stations : List Station) (bound : Nat),
    levelSearch (drawAtLevel stations) bound ≤ 1023 ∧ levelSearch (regenAtLevel stations) bound ≤ 1023)

/-- The grant (R56): the share after derating, raised to the auxiliary draw where the share reaches it; and the law that
it never exceeds the snapshot's demand, the share, or in SOLO the solo share. -/
def Obligations.GrantStaysWithinTheShare : Prop :=
  ∀ (r : Round) (img : Image), img.vFloor < img.vStart →
    let share := r.share img
    let factor := deratingFactor r.snapshot.vAvg img.vFloor img.vStart
    (share < img.auxDraw → r.grant img = share * factor / 256) ∧
    (img.auxDraw ≤ share → r.grant img = max img.auxDraw (share * factor / 256)) ∧
    r.grant img ≤ share ∧ r.grant img ≤ r.snapshot.own.demand ∧
    (r.mode = .solo → r.grant img ≤ img.soloShare)

/-- The regen limit and the chopper demand (R58, R59, R61), and the law that together they are the snapshot's offer when
self is a regenerator, the regen limit being 0 in SOLO and from V_cut on. -/
def Obligations.RegenAndChopperShareTheOffer : Prop :=
  ∀ (r : Round) (img : Image), img.vTaper < img.vCut →
    let self := r.snapshot.self
    let demands := ((r.stations.filter (fun st => decide (0 < st.cls.weight) && decide (0 < st.demand))).map
      Station.demand).sum
    let taken (level : Nat) : Nat :=
      ((r.stations.filter (fun st => decide (st.cls = .descent) && decide (0 < st.offer))).map
        (fun st => min st.offer level)).sum
    let full := demands * r.snapshot.record.absorb / 100
    let absorption := if r.mode = .guarded then full * (100 - img.guardPercent) / 100 else full
    (self.regenerates = false → r.regenLimit img = 0 ∧ r.chopperDemand img = 0) ∧
    (self.regenerates = true →
      r.regenLimit img + r.chopperDemand img = r.snapshot.own.offer ∧
      (r.mode = .solo ∨ img.vCut ≤ r.snapshot.vAvg → r.regenLimit img = 0) ∧
      (r.mode ≠ .solo → ∃ level : Nat, level ≤ 1023 ∧ taken level ≤ absorption ∧
        (∀ other : Nat, other ≤ 1023 → taken other ≤ absorption → other ≤ level) ∧
        r.regenLimit img =
          min self.offer level * taperFactor r.snapshot.vAvg img.vTaper img.vCut / 256))

/-- A round's completion (R62 to R64, R66 to R68, R148): published where the start tags equal the live values and void
otherwise; CFM then hears the publication notice, LOSSY and VOLT_SUSPECT, in this order, and each change of the level
among them is a STATUS trigger (R163). That the transmitter chooses once, after all three, is the model's choice, log
entry 36. -/
def Obligations.RoundCompletionPublishesOrVoids : Prop :=
  ∀ (s : State) (r : Round), s.held = false → s.sre.round = some r →
    let holds : Prop := r.tags.sectionIndex = s.sectionIndex ∧ r.tags.sectionKnown = s.sectionKnown ∧
      r.tags.level = s.cfm.level
    let tallies := ((r.snapshot.peers.filter (fun e => decide (e.freshness = .fresh))).map CopyEntry.tally).sum
    let lossy : Bool := decide (s.cfg.lossyThreshold ≤ tallies)
    let reported : List Nat := (r.snapshot.peers.filter (fun e =>
        decide (e.freshness = .fresh) && !e.contested)).filterMap (fun e => e.records.head?.map (fun c => c.volts * 12))
    let differing := reported.countP (fun v : Nat =>
      decide (s.cfg.voltWindow < ((v : Int) - r.snapshot.vAvg).natAbs))
    let suspect : Bool := decide (2 ≤ reported.length ∧ reported.length < 2 * differing)
    let report (m : Cfm) (c : Cause) (active : Bool) : Cfm := if active then m.raise c else m.clear c
    let moves (heard : Cfm) (u : State) : Prop :=
      u.dlk.statusPending = (s.dlk.statusPending || decide (heard.level ≠ s.cfm.level) ||
        decide ((report heard .lossy lossy).level ≠ heard.level) ||
        decide (u.cfm.level ≠ (report heard .lossy lossy).level))
    ∃ u : State, exec .roundCompletion s = .next u.settle ∧
      u = { s with sre := u.sre, cfm := u.cfm, drp := u.drp, bch := u.bch,
                   dlk := { s.dlk with statusPending := u.dlk.statusPending } } ∧
      (holds →
        u.sre = { s.sre with
          round := none, grant := r.grant s.cfg, regen := r.regenLimit s.cfg, chopper := r.chopperDemand s.cfg,
          derated := decide (r.factor s.cfg < 256), published := s.sre.published + 1 } ∧
        u.cfm = report (report (s.cfm.publication s.cfg.recoveryRounds) .lossy lossy) .voltSuspect suspect ∧
        moves (s.cfm.publication s.cfg.recoveryRounds) u ∧
        u.drp = (State.recompose { s with sre := u.sre } false).drp ∧
        u.bch = (State.refreshChopper { s with sre := u.sre }).bch ∧
        (u.bch.regenInForce, u.bch.chopperInForce) =
          inForce s.psq.state s.sgm.cut (r.regenLimit s.cfg) (r.chopperDemand s.cfg)) ∧
      (¬holds →
        u.sre = { s.sre with round := none, voided := s.sre.voided + 1 } ∧
        u.cfm = report (report s.cfm .lossy lossy) .voltSuspect suspect ∧ moves s.cfm u ∧ u.drp = s.drp ∧ u.bch = s.bch)

/-- The law of R62 and the stillness of R48: the published values change only at a completion whose start tags equal the
live values, or to 0 at a notice timer's expiry or a reset; and a round in flight is never altered, only ended. -/
def Obligations.PublicationNeedsUnchangedTags : Prop :=
  ∀ (c : Instr) (s t : State), exec c s = .next t →
    ((t.sre.grant, t.sre.regen, t.sre.chopper) ≠ (s.sre.grant, s.sre.regen, s.sre.chopper) →
      (c = .roundCompletion ∧ ∃ r : Round, s.sre.round = some r ∧ r.tags.sectionIndex = s.sectionIndex ∧
        r.tags.sectionKnown = s.sectionKnown ∧ r.tags.level = s.cfm.level ∧ t.sre.grant = r.grant s.cfg ∧
        t.sre.regen = r.regenLimit s.cfg ∧ t.sre.chopper = r.chopperDemand s.cfg) ∨
      ((c = .noticeTimerExpiry ∨ resets c = true) ∧ t.sre.grant = 0 ∧ t.sre.regen = 0 ∧ t.sre.chopper = 0)) ∧
    (c ≠ .noticeTimerExpiry → t.sre.round = s.sre.round ∨
      (t.sre.round = none ∧ (c = .roundCompletion ∨ resets c = true)))


/-! ## Measurement -/

/-- The pair start, which waits for the first tick after READY or the RESTART (R82), and the voltage conversion (R71,
R73, R75, R76, R80): the floored volts join the ring, V_avg is the floored mean of the last 16 samples at most, the
collapse state follows its table, and a change of it recomposes T (R98). -/
def Obligations.VoltageConversions : Prop :=
  ∀ s : State, s.held = false →
    (s.cfl.loader = .ready → s.tmb.phase = 0 → s.msu.adc = .idle →
      (s.msu.runsFrom ≠ some s.instant → exec .conversionPairStart s =
        .next (State.settle { s with msu := { s.msu with adc := .voltage s.instant, runsFrom := none } })) ∧
      (s.msu.runsFrom = some s.instant → exec .conversionPairStart s = .next s)) ∧
    (∀ (code : BitVec 12) (since : Instant), s.msu.adc = .voltage since → s.msu.voltage.Sound 0 2999 s.msu.vAvg →
      let volts : Int := (code.toNat : Int) * 3000 / 4096
      let samples := (s.msu.voltage.samples ++ [volts]).rtake 16
      ∃ (vAvg : Nat) (collapse : Bool),
        (vAvg : Int) = samples.sum / (samples.length : Int) ∧ vAvg ≤ 2999 ∧
        (s.msu.collapse = false → (collapse = true ↔ vAvg < s.cfg.vCollapse)) ∧
        (s.msu.collapse = true → (collapse = false ↔ s.cfg.vFloor ≤ vAvg)) ∧
        let u : State := { s with
          msu := { s.msu with
            adc := .current s.instant, voltage := { samples := samples, sum := samples.sum }, vAvg := vAvg,
            collapse := collapse } }
        exec (.voltageConversionCompletion code) s =
          .next (State.settle (if collapse = s.msu.collapse then u else u.recompose false)))

/-- The current conversion (R74 to R78): the floored draw joins its ring, I_avg is the floored mean, and the overdraw
state is judged against A plus the margin, by runs of 200 ms above it and of 1,000 ms at or below it. -/
def Obligations.CurrentConversions : Prop :=
  ∀ (s : State) (code : BitVec 12) (since : Instant), s.held = false → s.msu.adc = .current since →
    s.msu.current.Sound (-400) 399 s.msu.iAvg →
    ∃ draw : Int, 2048 * draw ≤ ((code.toNat : Int) - 2048) * 400 ∧
      ((code.toNat : Int) - 2048) * 400 < 2048 * (draw + 1) ∧
      let samples := (s.msu.current.samples ++ [draw]).rtake 16
      let average := samples.sum / (samples.length : Int)
      let bound : Int := (s.drp.applied : Int) + s.cfg.overdrawMargin
      let sampled : Msu := { s.msu with
        adc := .idle, current := { samples := samples, sum := samples.sum }, iAvg := average }
      let overRun := (s.now - s.msu.overSince.getD s.now).toNat
      let underRun := (s.now - s.msu.underSince.getD s.now).toNat
      let after (u : State) : Prop := exec (.currentConversionCompletion code) s = .next u.settle
      (s.msu.overdraw = false →
        (average ≤ bound → after { s with msu := { sampled with overSince := none } }) ∧
        (bound < average → overRun < 200 →
          after { s with msu := { sampled with overSince := some (s.msu.overSince.getD s.now) } }) ∧
        (bound < average → 200 ≤ overRun →
          after { s with
            msu := { sampled with overdraw := true, overSince := none, underSince := none },
            cfm := s.cfm.raise .overdraw,
            dlk := { s.dlk with statusPending :=
              s.dlk.statusPending || decide ((s.cfm.raise .overdraw).level ≠ s.cfm.level) } })) ∧
      (s.msu.overdraw = true →
        (bound < average → after { s with msu := { sampled with underSince := none } }) ∧
        (average ≤ bound → underRun < 1000 →
          after { s with msu := { sampled with underSince := some (s.msu.underSince.getD s.now) } }) ∧
        (average ≤ bound → 1000 ≤ underRun →
          after { s with
            msu := { sampled with overdraw := false, underSince := none },
            cfm := { s.cfm with causes := s.cfm.causes.put false .overdraw } }))

/-! ## Draw ramp and limit reference -/

/-- A ramp step (R100, R102, R104, R109, R141, R122): A moves toward T at its slew, the episode counts the step and ends
where A reaches T, LRG is handed the new code, SGM judges the gap against the resulting A, and in CUTTING an A at zero
takes PSQ to DISCHARGE. -/
def Obligations.RampStep : Prop :=
  ∀ (s : State) (due : Tick), s.held = false → s.drp.stepTimer = some due → reached s.now due = true →
    let a := s.drp.applied
    let t := s.drp.target
    let next : Nat :=
      if a < t then (if s.drp.hold then a else min t (a + s.cfg.slewUp))
      else max t (a - (if s.drp.cut then s.cfg.slewCut else s.cfg.slewDown))
    let counted : Option Episode × LastEnding :=
      match s.drp.episode with
      | none => (none, s.drp.last)
      | some e =>
        if next = a then (some e, s.drp.last)
        else if next = t then (none, { ending := .completed, steps := e.steps + 1 })
        else (some { e with steps := e.steps + 1 }, s.drp.last)
    let moved : State := { s with
      drp := { s.drp with applied := next, episode := counted.1, last := counted.2, stepTimer := some (due + 10) },
      lrg := if next = a then s.lrg else { s.lrg with pending := some (codeOf next s.cfg.rated) } }
    let met : Prop := s.sgm.phase = .approach ∧ ∃ c : Countdown, s.sgm.countdown = some c ∧
      c.timeToGap - (s.now - c.loadedAt).toNat ≤
        (next + s.cfg.slewCut - 1) / s.cfg.slewCut * 10 + s.cfg.gapMargin
    ∃ u : State, (met → u = State.redraw { moved with sgm := { s.sgm with phase := .cut, cut := true } } true) ∧
      (¬met → u = moved) ∧
      (s.psq.state ≠ .cutting ∨ next ≠ 0 → exec .rampStep s = .next u.settle) ∧
      (s.psq.state = .cutting → next = 0 → exec .rampStep s = .next (u.enterPsq .discharge).settle)

/-- The law of R100 and R101: A rises only at a ramp step, without hold, by at most slew_up and never above the T in
force at that step; it falls only at a ramp step, never below that T, or to 0 where the contactor opens or a reset is
taken; and every A that is not a reset's reaches LRG as its pending code (R102, R109). -/
def Obligations.AppliedRisesOnlyAtRampSteps : Prop :=
  ∀ (c : Instr) (s t : State), exec c s = .next t →
    (s.drp.applied < t.drp.applied → c = .rampStep ∧ s.drp.hold = false ∧ t.drp.applied ≤ s.drp.target ∧
      t.drp.applied ≤ s.drp.applied + s.cfg.slewUp) ∧
    (t.drp.applied < s.drp.applied →
      (c = .rampStep ∧ s.drp.target ≤ t.drp.applied ∧
        s.drp.applied - (if s.drp.cut then s.cfg.slewCut else s.cfg.slewDown) ≤ t.drp.applied) ∨
      (t.drp.applied = 0 ∧ (t.psq.state.closed = false ∨ resets c = true))) ∧
    (t.drp.applied ≠ s.drp.applied → resets c = false →
      t.lrg.pending = some (codeOf t.drp.applied s.cfg.rated))

/-- A recomposition from READY on (R97, R98, R103 to R107): T is the least of the six terms, and the episode and its
ending follow the rules for a cut's arrival, for no episode, and for an episode on T's side of A or on the other. -/
def Obligations.RecompositionsDriveEpisodes : Prop :=
  ∀ (s : State) (arrives : Bool), s.cfl.loader = .ready →
    let d := s.drp
    let r := (s.recompose arrives).drp
    let a := d.applied
    let rt := s.cfg.rated
    let cut : Bool := (s.sgm.cut && decide (s.psq.state = .engaged)) || decide (s.psq.state = .cutting)
    let hold := s.psq.arcWarn
    let t : Nat := [s.sre.grant, if s.psq.state = .engaged then rt else 0, if s.sgm.cut then 0 else rt,
      if hold then s.sre.grant / 2 else rt, if s.dlk.silence then 0 else rt,
      if s.msu.collapse then 0 else rt].foldl min s.sre.grant
    let steps : Nat := (d.episode.map Episode.steps).getD 0
    let fresh (ending : LastEnding) : Option Episode × LastEnding :=
      if a < t then (some { dir := .rising, target := t, steps := 0, held := hold },
        if hold then { ending := .held, steps := 0 } else ending)
      else (some { dir := if cut then .cutting else .falling, target := t, steps := 0, held := false }, ending)
    s.recompose arrives = { s with drp := r } ∧
    r.applied = a ∧ r.target = t ∧ r.cut = cut ∧ r.hold = hold ∧ r.stepTimer = d.stepTimer ∧
    (cut = true → d.cut = false →
      (a = 0 → r.episode = d.episode ∧ r.last = d.last) ∧
      (0 < a → r.episode = some { dir := .cutting, target := t, steps := 0, held := false } ∧
        r.last = { ending := .cut, steps := steps })) ∧
    (cut = true → d.cut = true → arrives = true → r.episode = d.episode ∧ r.last = d.last) ∧
    (cut = false ∨ (d.cut = true ∧ arrives = false) →
      (d.episode = none → t = a → r.episode = none ∧ r.last = d.last) ∧
      (d.episode = none → t ≠ a → (r.episode, r.last) = fresh d.last) ∧
      (∀ e : Episode, d.episode = some e →
        (t = a → r.episode = none ∧ r.last = { ending := .completed, steps := e.steps }) ∧
        (e.dir = .rising → t < a → (r.episode, r.last) = fresh { ending := .retargeted, steps := e.steps }) ∧
        (e.dir ≠ .rising → a < t → (r.episode, r.last) = fresh { ending := .retargeted, steps := e.steps }) ∧
        (e.dir = .rising → a < t →
          (hold = true → d.hold = false → e.held = false →
            r.episode = some { e with target := t, held := true } ∧ r.last = { ending := .held, steps := e.steps }) ∧
          (hold = false ∨ d.hold = true ∨ e.held = true →
            r.episode = some { e with target := t, held := hold && e.held } ∧
            r.last = if t = e.target then d.last else { ending := .retargeted, steps := e.steps })) ∧
        (e.dir ≠ .rising → t < a →
          (e.dir = .cutting → cut = false → d.cut = true →
            r.episode = some { e with dir := .falling, target := t } ∧
            r.last = { ending := .retargeted, steps := e.steps }) ∧
          (e.dir = .falling ∨ cut = true ∨ d.cut = false →
            r.episode = some { e with target := t } ∧
            r.last = if t = e.target then d.last else { ending := .retargeted, steps := e.steps }))))

/-- The reference code is A over Rt in 1,023 parts, rounded, halves up, and never falls as A rises (R109); and over a
group of 1,024 counts the output is high for exactly as many counts as its code says (R110). -/
def Obligations.ReferenceCodesAndGroups : Prop :=
  (∀ applied rated : Nat, 0 < rated → applied ≤ rated →
    2 * codeOf applied rated * rated ≤ 2 * applied * 1023 + rated ∧
    2 * applied * 1023 + rated < 2 * (codeOf applied rated + 1) * rated ∧
    codeOf 0 rated = 0 ∧ codeOf rated rated = 1023 ∧
    ∀ less : Nat, less ≤ applied → codeOf less rated ≤ codeOf applied rated) ∧
  (∀ l : Lrg, l.pending.getD l.current ≤ 1023 →
    (List.range 1024).countP (fun n => (Lrg.nextCount^[n] l.startGroup).output) = l.pending.getD l.current) ∧
  (∀ s : State, s.held = false → s.cfl.loader = .ready →
    let high (code frame count : Nat) : Bool := decide (count < code / 4 + if frame < code % 4 then 1 else 0)
    (s.tmb.phase.toNat % 1024 = 0 →
      let code := s.lrg.pending.getD s.lrg.current
      exec .groupStart s = .next (State.settle { s with
        lrg := { current := code, pending := none, frame := 0, count := 0, output := high code 0 0 } })) ∧
    (s.tmb.phase.toNat % 1024 ≠ 0 →
      (s.lrg.count < 255 → exec .pwmCount s = .next (State.settle { s with
        lrg := { s.lrg with
          count := s.lrg.count + 1, output := high s.lrg.current s.lrg.frame (s.lrg.count + 1) } })) ∧
      (s.lrg.count = 255 → s.lrg.frame < 4 →
        let frame := (s.lrg.frame + 1) % 4
        exec .pwmCount s = .next (State.settle { s with
          lrg := { s.lrg with frame := frame, count := 0, output := high s.lrg.current frame 0 } }))))

/-! ## Brake chopper -/

/-- The chopper's periods (R88 to R92): the duty and dump length that a period takes at its start, both switches at each
of its counts, and the law that they are never on together and are the dead time apart, within a period and across the
tick from one switch's period to the other's. -/
def Obligations.ChopperPeriods : Prop :=
  ∀ s : State, s.held = false → s.bch.running = true →
    let dt := s.cfg.deadTime
    let dumps (length count : Nat) : Bool := decide (count < length)
    let clamps (length count : Nat) : Bool :=
      decide (length < 256 ∧ length + dt ≤ count ∧ count + dt < 256)
    (s.tmb.phase = 0 →
      ∃ duty length : Nat, duty = min 256 (s.bch.chopperInForce * 256 / s.cfg.chopperRating) ∧
        (duty < 2 * dt → length = 0) ∧
        (2 * dt ≤ duty → duty + 2 * dt ≤ 256 → length = duty) ∧
        (256 < duty + 2 * dt → 2 * dt ≤ duty → length = 256) ∧
        exec .chopperPeriodStart s = .next (State.settle { s with
          bch := { s.bch with
            inPeriod := true, count := 0, duty := duty, dumpLength := length, dump := dumps length 0,
            clamp := clamps length 0 } })) ∧
    (s.bch.inPeriod = true → s.bch.count < 255 → s.tmb.phase ≠ 0 → s.tmb.phase.toNat % 32 = 0 →
      exec .chopperCount s = .next (State.settle { s with
        bch := { s.bch with
          count := s.bch.count + 1, dump := dumps s.bch.dumpLength (s.bch.count + 1),
          clamp := clamps s.bch.dumpLength (s.bch.count + 1) } })) ∧
    (∀ length i j : Nat, dumps length i = true → clamps length j = true → i + dt < j) ∧
    (∀ length other i j k : Nat, clamps length j = true →
      (dumps other k = true → j + dt < 256 + k) ∧ (i < 256 → dumps other i = true → i + dt < 256 + j))

/-- The values in force and the drive state follow the sequencer state and the gap cut by their table, in ENGAGED and
CUTTING with the sum of the published pair; a change leaves the period in progress, and an open contactor abandons it
with both switches off (R85, R86, R92, R93). -/
def Obligations.ChopperFollowsTheSequencer : Prop :=
  ∀ s : State,
    let regen := s.sre.regen
    let chopper := s.sre.chopper
    let u := s.refreshChopper
    u = { s with bch := u.bch } ∧
    (s.psq.state = .engaged → s.sgm.cut = false →
      u.bch = { s.bch with running := true, regenInForce := regen, chopperInForce := chopper }) ∧
    ((s.psq.state = .engaged ∧ s.sgm.cut = true) ∨ s.psq.state = .cutting →
      u.bch = { s.bch with running := true, regenInForce := 0, chopperInForce := regen + chopper }) ∧
    (s.psq.state ≠ .engaged → s.psq.state ≠ .cutting →
      u.bch = { running := false, regenInForce := 0, chopperInForce := 0, inPeriod := false, count := 0, duty := 0,
                dumpLength := 0, dump := false, clamp := false })

/-! ## Pantograph sequencer -/

/-- An entry to a sequencer state (R101, R106, R114, R115, R117, R127): the outputs and the timer of its tables, the
counts that it clears, a STATUS trigger where the state changes, the zeroing of the draw where the contactor is open,
and otherwise a recomposition. That the raw run and arc warn run on from ENGAGED into CUTTING is read from R127 and R129
(log entry 18). -/
def Obligations.SequencerEntries : Prop :=
  ∀ (s : State) (st : PsqState),
    let u := s.enterPsq st
    let timed (ms : Nat) : Timer := some (s.now + BitVec.ofNat 32 ms)
    let closed : Prop := st = .engaged ∨ st = .cutting
    u = { s with psq := u.psq, drp := u.drp, lrg := u.lrg, bch := u.bch, dlk := u.dlk } ∧
    u.psq = { s.psq with
      state := st,
      contactor := decide (st = .engaged ∨ st = .cutting), precharge := decide (st = .precharge),
      discharge := decide (st = .discharge),
      actuator := match st with
        | .stowed => .idle
        | .retracting | .stuck => .lower
        | _ => .raise,
      stateTimer := match st with
        | .raising => timed s.cfg.raiseTimeout
        | .precharge => timed s.cfg.prechargeTime
        | .dropout => timed s.cfg.reacquireTime
        | .gapCoast => timed s.cfg.coastMaximum
        | .discharge => timed s.cfg.dischargeTime
        | .retracting => timed s.cfg.retractTimeout
        | _ => none,
      retry := if st = .engaged ∨ st = .stowed then 0 else s.psq.retry,
      rawRun := if st = .cutting then s.psq.rawRun else 0,
      arcWarn := if st = .cutting then s.psq.arcWarn else false,
      buckets := if st = .engaged then [0, 0, 0, 0, 0, 0, 0, 0] else s.psq.buckets } ∧
    u.dlk = { s.dlk with statusPending := s.dlk.statusPending || decide (st ≠ s.psq.state) } ∧
    u.bch = (State.refreshChopper { s with psq := u.psq }).bch ∧
    (closed → u.lrg = s.lrg ∧ u.drp = (State.recompose { s with psq := u.psq } (decide (st = .cutting))).drp) ∧
    (¬closed →
      u.lrg = (if s.drp.applied = 0 then s.lrg else { s.lrg with pending := some 0 }) ∧
      u.drp = { s.drp with
        applied := 0, target := 0, hold := false, cut := false, episode := none, caps := u.capsNow,
        last := if s.drp.episode = none ∧ s.drp.applied = 0 then s.drp.last
          else { ending := .cut, steps := (s.drp.episode.map Episode.steps).getD 0 } })

/-- An edge of a filter's clock (R116): a sample that differs from the accepted level and equals the previous one is
accepted. Where the contact or the down-limit filter accepts a level that has an event, the edge is that event's
command. Until READY any tick may be an edge (log entry 8). -/
def Obligations.FilterEdges : Prop :=
  ∀ (s : State) (level : Bool), s.held = false → s.tmb.phase = 0 →
    let onEdge (clock : Image → Nat) : Prop := s.cfl.loader = .ready → s.now.toNat % clock s.cfg = 0
    let accepts (f : InputFilter) : Prop := level ≠ f.accepted ∧ level = f.previous
    let kept (f : InputFilter) : InputFilter := { f with previous := level }
    let taken : InputFilter := { accepted := level, previous := level }
    let after (c : Instr) (p : Psq) : Prop := exec c s = .next (State.settle { s with psq := p })
    (onEdge Image.upClock →
      (accepts s.psq.upLimit → after (.filterEdge .upLimit level) { s.psq with upLimit := taken }) ∧
      (¬accepts s.psq.upLimit →
        after (.filterEdge .upLimit level) { s.psq with upLimit := kept s.psq.upLimit })) ∧
    (onEdge Image.downClock →
      (accepts s.psq.downLimit → level = true → exec (.filterEdge .downLimit level) s = exec .downLimit s) ∧
      (accepts s.psq.downLimit → level = false →
        after (.filterEdge .downLimit level) { s.psq with downLimit := taken }) ∧
      (¬accepts s.psq.downLimit →
        after (.filterEdge .downLimit level) { s.psq with downLimit := kept s.psq.downLimit })) ∧
    (onEdge Image.contactClock →
      (accepts s.psq.contact → level = true → exec (.filterEdge .contact level) s = exec .contactReturn s) ∧
      (accepts s.psq.contact → level = false → exec (.filterEdge .contact level) s = exec .contactLoss s) ∧
      (¬accepts s.psq.contact →
        after (.filterEdge .contact level) { s.psq with contact := kept s.psq.contact }))

/-- A contact loss (R20, R119 to R125, R143): a notice being sent is aborted, ENGAGED goes to GAP_COAST or DROPOUT by
the armed state, CUTTING to DISCHARGE, PRECHARGE back to RAISING or, at the third loss, to DISCHARGE with
PRECHARGE_FAIL, and the gap goes to CROSSING from APPROACH and from CUT. -/
def Obligations.ContactLosses : Prop :=
  ∀ s : State, s.held = false → s.tmb.phase = 0 →
    (s.cfl.loader = .ready → s.now.toNat % s.cfg.contactClock = 0) →
    s.psq.contact = { accepted := true, previous := false } →
    let silenced : State :=
      if s.ntx.state = .sending then
        { s with
          ntx := if s.ntx.mutePending then
              { s.ntx with state := .muted, quiet := 0, activity := false, symbolEnds := none }
            else { s.ntx with state := .idle, symbolEnds := none },
          dlk := { s.dlk with statusPending := true } }
      else s
    let lost : State := { silenced with psq := { s.psq with contact := { accepted := false, previous := false } } }
    let retried (n : Nat) : State := { lost with psq := { lost.psq with retry := n } }
    let gap : Sgm := match s.sgm.phase with
      | .approach => { s.sgm with phase := .crossing }
      | .cut => { s.sgm with phase := .crossing, graceTimer := none }
      | _ => s.sgm
    let after (u : State) : Prop := exec .contactLoss s = .next (State.settle { u with sgm := gap })
    (s.psq.state = .engaged → s.sgm.phase ≠ .disarmed → after (lost.enterPsq .gapCoast)) ∧
    (s.psq.state = .engaged → s.sgm.phase = .disarmed → after (lost.enterPsq .dropout)) ∧
    (s.psq.state = .cutting → after (lost.enterPsq .discharge)) ∧
    (s.psq.state = .precharge → s.psq.retry < 2 → after ((retried (s.psq.retry + 1)).enterPsq .raising)) ∧
    (s.psq.state = .precharge → 2 ≤ s.psq.retry →
      after (((retried 3).setSticky .prechargeFail).enterPsq .discharge)) ∧
    (s.psq.state ≠ .engaged → s.psq.state ≠ .cutting → s.psq.state ≠ .precharge → after lost)

/-- A contact return (R119, R123, R124, R143): RAISING goes to PRECHARGE, with RAISE_FAIL where the accepted up-limit is
false, DROPOUT and GAP_COAST go to PRECHARGE, and in CROSSING the gap is disarmed, which ends a cut in force. -/
def Obligations.ContactReturns : Prop :=
  ∀ s : State, s.held = false → s.tmb.phase = 0 →
    (s.cfl.loader = .ready → s.now.toNat % s.cfg.contactClock = 0) →
    s.psq.contact = { accepted := false, previous := true } →
    let heard : State := { s with psq := { s.psq with contact := { accepted := true, previous := true } } }
    ∃ u : State,
      (s.psq.state = .raising → s.psq.upLimit.accepted = true → u = heard.enterPsq .precharge) ∧
      (s.psq.state = .raising → s.psq.upLimit.accepted = false →
        u = (heard.setSticky .raiseFail).enterPsq .precharge) ∧
      (s.psq.state = .dropout ∨ s.psq.state = .gapCoast → u = heard.enterPsq .precharge) ∧
      (s.psq.state ≠ .raising → s.psq.state ≠ .dropout → s.psq.state ≠ .gapCoast → u = heard) ∧
      (s.sgm.phase ≠ .crossing → exec .contactReturn s = .next u.settle) ∧
      (s.sgm.phase = .crossing →
        let disarmed : Sgm := { s.sgm with phase := .disarmed, cut := false, countdown := none, graceTimer := none }
        exec .contactReturn s = .next (State.settle
          (if s.sgm.cut then State.redraw { u with sgm := disarmed } false else { u with sgm := disarmed })))

/-- The down-limit and the expiries of the state timer (R115, R118 to R120, R123 to R125): each leads to the state and
sets the sticky fault that the tables give. An entry to RETRACTING on a true down-limit goes on to STOWED. -/
def Obligations.DownLimitAndStateTimers : Prop :=
  ∀ s : State, s.held = false →
    let retract (u : State) : State :=
      if s.psq.downLimit.accepted then (u.enterPsq .retracting).enterPsq .stowed else u.enterPsq .retracting
    (s.tmb.phase = 0 → (s.cfl.loader = .ready → s.now.toNat % s.cfg.downClock = 0) →
      s.psq.downLimit = { accepted := false, previous := true } →
      let down : State := { s with psq := { s.psq with downLimit := { accepted := true, previous := true } } }
      (s.cfl.loader = .halted →
        exec .downLimit s = .next (State.settle { down with psq := { down.psq with actuator := .idle } })) ∧
      (s.cfl.loader ≠ .halted → s.psq.state = .retracting ∨ s.psq.state = .stuck →
        exec .downLimit s = .next (down.enterPsq .stowed).settle) ∧
      (s.cfl.loader ≠ .halted → s.psq.state ≠ .retracting → s.psq.state ≠ .stuck →
        exec .downLimit s = .next down.settle)) ∧
    (∀ due : Tick, s.psq.stateTimer = some due → reached s.now due = true →
      (s.psq.state = .raising → exec .raiseTimeout s = .next (retract (s.setSticky .raiseFail)).settle) ∧
      (s.psq.state = .precharge →
        (s.dlk.stow = false → exec .prechargeExpiry s = .next (s.enterPsq .engaged).settle) ∧
        (s.dlk.stow = true →
          exec .prechargeExpiry s = .next ((s.setSticky .linkSilent).enterPsq .discharge).settle)) ∧
      (s.psq.state = .dropout →
        exec .reacquireExpiry s = .next ((s.setSticky .dropoutTimeout).enterPsq .discharge).settle) ∧
      (s.psq.state = .gapCoast → exec .coastExpiry s = .next (s.enterPsq .discharge).settle) ∧
      (s.psq.state = .discharge → exec .dischargeExpiry s = .next (retract s).settle) ∧
      (s.psq.state = .retracting →
        exec .retractTimeout s = .next ((s.setSticky .stuckUp).enterPsq .stuck).settle))

/-- The law of R114 and R120 over every command: the contactor closes only at the precharge time's expiry, with the stow
condition not standing, and it opens whenever the sequencer leaves ENGAGED and CUTTING. -/
def Obligations.ContactorClosesOnlyAfterPrecharge : Prop :=
  ∀ (c : Instr) (s t : State), s.Interlocked → s.QuietUnlessReady → exec c s = .next t →
    (s.psq.contactor = false → t.psq.contactor = true →
      c = .prechargeExpiry ∧ s.psq.state = .precharge ∧ s.psq.stateTimer.due s.now = true ∧ s.dlk.stow = false ∧
      t.psq.state = .engaged ∧ t.psq.precharge = false ∧ t.psq.retry = 0) ∧
    (t.psq.state ≠ .engaged → t.psq.state ≠ .cutting → t.psq.contactor = false) ∧
    (s.psq.state = .engaged → t.psq.state ≠ .engaged → resets c = true ∨
      t.psq.state = .cutting ∨ t.psq.state = .discharge ∨ t.psq.state = .gapCoast ∨ t.psq.state = .dropout)

/-- PANTO frames in READY (R126, R160): each of the ten states answers RAISE and LOWER by the table, and a request byte
that is neither 1 nor 2 is refused with BAD_VALUE. -/
def Obligations.PantoRequests : Prop :=
  ∀ s : State, s.held = false → s.cfl.loader = .ready →
    let st := s.psq.state
    let done (u : State) : Host.Outcome State Fault Refusal :=
      .next (State.settle { u with dlk := { u.dlk with
        rx := { bytes := [], overlong := false, byteError := false, receiving := false, lastEnd := none } } })
    let acknowledged : State := { s with dlk := { s.dlk with statusPending := true } }
    let refused (reason : RefuseReason) : State :=
      if s.dlk.refusals.length < 4 then
        { s with dlk := { s.dlk with refusals := s.dlk.refusals ++ [(18, reason)] } }
      else { s with dlk := { s.dlk with dropped := min 255 (s.dlk.dropped + 1) } }
    let cutting := s.enterPsq .cutting
    (s.LineIdle → s.dlk.rx.frame = some (18, [1]) →
      (st = .stowed → exec .pantoRaise s = done (s.enterPsq .raising)) ∧
      (st = .raising ∨ st = .precharge ∨ st = .engaged ∨ st = .dropout ∨ st = .gapCoast →
        exec .pantoRaise s = done acknowledged) ∧
      (st = .cutting ∨ st = .discharge ∨ st = .retracting ∨ st = .stuck →
        exec .pantoRaise s = done (refused .state))) ∧
    (s.LineIdle → s.dlk.rx.frame = some (18, [2]) →
      (st = .raising → exec .pantoLower s = done (if s.psq.downLimit.accepted
        then (s.enterPsq .retracting).enterPsq .stowed else s.enterPsq .retracting)) ∧
      (st = .engaged → exec .pantoLower s = done (if s.drp.applied = 0
        then cutting.enterPsq .discharge else cutting)) ∧
      (st = .precharge ∨ st = .dropout ∨ st = .gapCoast → exec .pantoLower s = done (s.enterPsq .discharge)) ∧
      (st = .stowed ∨ st = .cutting ∨ st = .discharge ∨ st = .retracting ∨ st = .stuck →
        exec .pantoLower s = done acknowledged)) ∧
    (∀ request : Byte, request ≠ 1 → request ≠ 2 → s.LineIdle → s.dlk.rx.frame = some (18, [request]) →
      exec .pantoBadValue s = done (refused .badValue))

/-- The arc monitor (R127 to R129): the contact strobes count bounces into the current bucket, and at each ring advance
the sum of the eight buckets is judged in ENGAGED and CUTTING before the oldest bucket is discarded. That a strobe which
coincides with the entry to ENGAGED samples where it is taken after it is the model's choice, log entry 32. -/
def Obligations.ArcMonitor : Prop :=
  ∀ s : State, s.held = false →
    (s.psq.state = .engaged ∨ s.psq.state = .cutting → s.tmb.phase.toNat % 512 = 0 →
      let after (p : Psq) : Host.Outcome State Fault Refusal := .next (State.settle { s with psq := p })
      exec (.contactStrobe false) s =
        after { s.psq with rawRun := min (s.cfg.bounceMax + 1) (s.psq.rawRun + 1) } ∧
      (∀ (older : List Nat) (current : Nat), older.length = 7 → s.psq.buckets = older ++ [current] →
        (1 ≤ s.psq.rawRun → s.psq.rawRun ≤ s.cfg.bounceMax → exec (.contactStrobe true) s =
          after { s.psq with rawRun := 0, buckets := older ++ [min 255 (current + 1)] }) ∧
        (s.psq.rawRun = 0 ∨ s.cfg.bounceMax < s.psq.rawRun → exec (.contactStrobe true) s =
          after { s.psq with rawRun := 0 }))) ∧
    (∀ due : Tick, s.psq.ringTimer = some due → reached s.now due = true →
      let timed (u : State) : State := { u with psq := { u.psq with ringTimer := some (due + 125) } }
      let advanced (u : State) : Host.Outcome State Fault Refusal :=
        .next (State.settle { u with psq := { u.psq with buckets := u.psq.buckets.drop 1 ++ [0] } })
      let warned (warn : Bool) : State :=
        let u : State := { timed s with psq := { (timed s).psq with arcWarn := warn } }
        if warn = s.psq.arcWarn then u else u.recompose false
      let tripped (u : State) : State := u.setSticky .arcTrip
      let sum := s.psq.buckets.sum
      (s.psq.state ≠ .engaged → s.psq.state ≠ .cutting → exec .ringAdvance s = advanced (timed s)) ∧
      (s.psq.state = .engaged ∨ s.psq.state = .cutting →
        (sum < s.cfg.arcTrip → s.cfg.arcWarn ≤ sum → exec .ringAdvance s = advanced (warned true)) ∧
        (sum < s.cfg.arcTrip → sum < s.cfg.arcWarn → s.cfg.arcWarn / 2 < sum →
          exec .ringAdvance s = advanced (timed s)) ∧
        (sum < s.cfg.arcTrip → sum < s.cfg.arcWarn → sum ≤ s.cfg.arcWarn / 2 →
          exec .ringAdvance s = advanced (warned false))) ∧
      (s.cfg.arcTrip ≤ sum →
        (s.psq.state = .cutting → exec .ringAdvance s = advanced (tripped (warned true))) ∧
        (s.psq.state = .engaged →
          let u := State.enterPsq (tripped { timed s with psq := { (timed s).psq with arcWarn := true } }) .cutting
          exec .ringAdvance s = advanced (if s.drp.applied = 0 then u.enterPsq .discharge else u))))

/-! ## Section identity and gap -/

/-- The end of a pilot window (R133, R134, R138): the code of the band in which the mean frequency lies, the candidate
and its stability count, establishment at the third window, the none count, and the loss of the pilot. -/
def Obligations.PilotWindows : Prop :=
  ∀ (s : State) (due : Tick), s.held = false → s.crx.pilotEnd = some due → reached s.now due = true →
    let timed (g : Sgm) : State := { s with crx := { s.crx with pilotEnd := some (due + 100) }, sgm := g }
    let silent : Sgm := { s.sgm with candidate := none, stability := 0, noneCount := min 50 (s.sgm.noneCount + 1) }
    let loses : Prop := s.sgm.lost = false ∧ (s.cfg.pilotTimeout + 99) / 100 ≤ silent.noneCount
    let none' (c : Instr) : Prop :=
      (¬loses → exec c s = .next (timed silent).settle) ∧
      (loses → exec c s = .next (State.settle { timed { silent with lost := true } with
        cfm := s.cfm.raise .pilotLost,
        dlk := { s.dlk with
          statusPending := s.dlk.statusPending || s.sectionKnown ||
            decide ((s.cfm.raise .pilotLost).level ≠ s.cfm.level) } }))
    (∀ p f : Nat, p < 8 → 1440000 + 250000 * p ≤ f → f ≤ 1560000 + 250000 * p →
      let code := BitVec.ofNat 3 p
      let after (u : State) : Prop := exec (.pilotWindowEnd true f) s = .next u.settle
      (s.sgm.candidate ≠ some code →
        after (timed { s.sgm with candidate := some code, stability := 1, noneCount := 0 })) ∧
      (s.sgm.candidate = some code → s.sgm.stability < 2 →
        after (timed { s.sgm with stability := s.sgm.stability + 1, noneCount := 0 })) ∧
      (s.sgm.candidate = some code → s.sgm.stability = 2 →
        after ((timed { s.sgm with stability := 3, noneCount := 0 }).establish code)) ∧
      (s.sgm.candidate = some code → 3 ≤ s.sgm.stability →
        after (timed { s.sgm with stability := 3, noneCount := 0 }))) ∧
    (∀ f : Nat, (∀ p : Nat, p < 8 → ¬(1440000 + 250000 * p ≤ f ∧ f ≤ 1560000 + 250000 * p)) →
      none' (.pilotWindowEnd true f)) ∧
    (∀ f : Nat, none' (.pilotWindowEnd false f))

/-- An established code (R135, R136, R139, R143, R146): the current code only ends a loss of the pilot; any other is a
section change, which flushes the table, raises REJOIN for two notice periods, sets SECTION_UNKNOWN by the section
table, and disarms the gap. -/
def Obligations.SectionEstablishment : Prop :=
  ∀ (s : State) (p : PilotCode),
    (s.sgm.currentCode = some p →
      (s.sgm.lost = false → s.establish p = s) ∧
      (s.sgm.lost = true → s.establish p = { s with
        sgm := { s.sgm with lost := false }, cfm := { s.cfm with causes := s.cfm.causes.put false .pilotLost },
        dlk := { s.dlk with statusPending := s.dlk.statusPending || (s.cfg.sectionOf p).isSome } })) ∧
    (s.sgm.currentCode ≠ some p →
      let known := (s.cfg.sectionOf p).isSome
      let rejoined : Cfm := (s.cfm.raise .rejoin).clear .pilotLost
      let armed : Bool := decide (s.sgm.phase ≠ .disarmed)
      let changed : State := { s with
        sgm := { s.sgm with
          currentCode := some p, lost := false,
          rejoinTimer := some (s.now + BitVec.ofNat 32 (2 * s.cfg.period)),
          phase := .disarmed, cut := if armed then false else s.sgm.cut,
          countdown := if armed then none else s.sgm.countdown,
          graceTimer := if armed then none else s.sgm.graceTimer },
        ptb := { s.ptb with slots := Vector.replicate 16 none },
        cfm := if known then rejoined.clear .sectionUnknown else rejoined.raise .sectionUnknown,
        dlk := { s.dlk with
          statusPending := s.dlk.statusPending || decide (p ≠ s.sectionIndex) || decide (known ≠ s.sectionKnown) ||
            decide (s.cfm.level ≠ .solo) } }
      s.establish p = (if armed && s.sgm.cut then changed.redraw false else changed) ∧
      (s.establish p).cfm.level = .solo ∧ (s.establish p).sectionIndex = p ∧
      (s.establish p).sectionKnown = known)

/-- The rejoin timer, the run-out of the countdown and a false gap (R139, R142, R143): REJOIN is cleared; in APPROACH
the cut starts and the grace timer runs from the run-out; at its expiry FALSE_GAP is set and the gap is disarmed. -/
def Obligations.RejoinAndGapExpiries : Prop :=
  ∀ s : State, s.held = false →
    (∀ due : Tick, s.sgm.rejoinTimer = some due → reached s.now due = true →
      exec .rejoinExpiry s = .next (State.settle { s with
        sgm := { s.sgm with rejoinTimer := none },
        cfm := { s.cfm with causes := s.cfm.causes.put false .rejoin } })) ∧
    (∀ c : Countdown, s.sgm.countdown = some c → s.sgm.graceTimer = none →
      c.timeToGap ≤ (s.now - c.loadedAt).toNat →
      let waiting (u : State) : State := { u with
        sgm := { u.sgm with graceTimer := some (s.now + BitVec.ofNat 32 s.cfg.gapGrace) } }
      (s.sgm.phase = .approach →
        let u := State.redraw { s with sgm := { s.sgm with phase := .cut, cut := true } } true
        exec .countdownRunOut s = .next (waiting u).settle) ∧
      (s.sgm.phase = .cut → exec .countdownRunOut s = .next (waiting s).settle)) ∧
    (∀ due : Tick, s.sgm.graceTimer = some due → reached s.now due = true →
      let missed : State := { s with
        sgm := { s.sgm with phase := .disarmed, cut := false, countdown := none, graceTimer := none },
        dlk := { s.dlk with sticky := { s.dlk.sticky with falseGap := true } } }
      exec .graceExpiry s = .next (State.settle (if s.sgm.cut then missed.redraw false else missed)))

/-- A GAP frame in READY (R140, R143, R160): the distance and the speed are clamped; a distance above 0 loads the
countdown, arms the gap and lifts a cut in force, and a distance of 0 disarms an armed gap. -/
def Obligations.GapFrames : Prop :=
  ∀ (s : State) (d1 d0 v1 v0 : Byte), s.held = false → s.cfl.loader = .ready →
    s.LineIdle → s.dlk.rx.frame = some (19, [d1, d0, v1, v0]) →
    let metres := min (256 * d1.toNat + d0.toNat) 2000
    let speed := min (max (256 * v1.toNat + v0.toNat) 5) 300
    let relieved (g : Sgm) : State :=
      let u : State := { s with sgm := { g with cut := false } }
      if s.sgm.cut then u.redraw false else u
    let done (u : State) : Prop := exec .gap s = .next (State.settle { u with
      dlk := { u.dlk with
        rx := { bytes := [], overlong := false, byteError := false, receiving := false, lastEnd := none } } })
    (metres = 0 → s.sgm.phase = .disarmed → done s) ∧
    (metres = 0 → s.sgm.phase ≠ .disarmed →
      done (relieved { s.sgm with phase := .disarmed, countdown := none, graceTimer := none })) ∧
    (0 < metres →
      done (relieved { s.sgm with
        phase := .approach, graceTimer := none,
        countdown := some { timeToGap := 10000 * metres / speed, loadedAt := s.now } }))

/-! ## Confidence levels -/

/-- The law of R147 to R149 over every command: the level rises by one step only, at the publication of a round with a
qualifying run that reaches recovery rounds, and falls straight to the required level, with the recovery count at 0;
between these it stands. A publication notice counts a round that qualifies, and sets the count to 0 where the required
level equals the level, so that the run is one of consecutive rounds (R148). -/
def Obligations.LevelMoves : Prop :=
  (∀ (m : Cfm) (n : Nat),
    let required : Level :=
      if m.causes.clash ∨ m.causes.pilotLost ∨ m.causes.sectionUnknown ∨ m.causes.rejoin then .solo
      else if m.causes.lossy ∨ m.causes.voltSuspect ∨ m.causes.overdraw then .guarded else .full
    (required = m.level → m.publication n = { m with recovery := 0 }) ∧
    (required.severity < m.level.severity →
      (m.recovery + 1 = n → m.publication n =
        { m with level := if m.level = .solo then .guarded else .full, recovery := 0 }) ∧
      (m.recovery + 1 ≠ n → m.publication n = { m with recovery := m.recovery + 1 }))) ∧
  ∀ (c : Instr) (s t : State), exec c s = .next t → resets c = false →
    (t.sre.published = s.sre.published + 1 → s.cfm.causes.required = s.cfm.level → t.cfm.recovery = 0) ∧
    (t.cfm.level.severity < s.cfm.level.severity →
      c = .roundCompletion ∧ t.sre.published = s.sre.published + 1 ∧
      t.cfm.level.severity + 1 = s.cfm.level.severity ∧ s.cfm.recovery + 1 = s.cfg.recoveryRounds ∧
      s.cfm.causes.required.severity < s.cfm.level.severity ∧ t.cfm.recovery = 0) ∧
    (s.cfm.level.severity < t.cfm.level.severity →
      t.cfm.level = t.cfm.causes.required ∧ t.cfm.recovery = 0) ∧
    (t.cfm.recovery ≠ s.cfm.recovery → t.cfm.recovery = 0 ∨
      (c = .roundCompletion ∧ t.sre.published = s.sre.published + 1 ∧ t.cfm.recovery = s.cfm.recovery + 1 ∧
        s.cfm.causes.required.severity < s.cfm.level.severity))

/-! ## Drive link -/

/-- Reception and the checks of a frame in their order (R156, R157): bytes join the buffer; no frame ends until the line
has been idle for more than two byte times; at the frame end a buffer that holds no sound frame is dropped and counted,
and a sound one is refused with STATE, UNKNOWN_TYPE or BAD_LENGTH, or taken. Which command stands for a frame that fails
a check, and that BYTE_RECEIVED has two moments, are the model's choices (log entries 13 and 33). -/
def Obligations.FrameReception : Prop :=
  ∀ (s : State), s.held = false →
    (∀ (raw : RawInputs) (c : Instr), ¬s.LineIdle →
      c ∈ [.demand, .pantoRaise, .pantoLower, .pantoBadValue, .gap, .query, .restart raw, .frameDropped] →
      exec c s = .next s) ∧
    (∀ (byte : Byte) (wrongStop : Bool),
      let marked : RxBuffer := { s.dlk.rx with
        byteError := s.dlk.rx.byteError || wrongStop, receiving := false, lastEnd := some s.instant }
      let after (moment : ByteMoment) (rx : RxBuffer) : Prop :=
        exec (.byteReceived byte moment) s = .next (State.settle { s with dlk := { s.dlk with rx := rx } })
      after .begins { s.dlk.rx with receiving := true } ∧
      (s.dlk.rx.bytes.length < 16 → after (.ends wrongStop) { marked with bytes := s.dlk.rx.bytes ++ [byte] }) ∧
      (16 ≤ s.dlk.rx.bytes.length → after (.ends wrongStop) { marked with overlong := true })) ∧
    (s.LineIdle →
     let cleared (u : State) : State :=
      { u with dlk := { u.dlk with
        rx := { bytes := [], overlong := false, byteError := false, receiving := false, lastEnd := none } } }
     let counted : State := { s with dlk := { s.dlk with dropped := min 255 (s.dlk.dropped + 1) } }
     let refused (ty : Byte) (reason : RefuseReason) : State :=
      if s.dlk.refusals.length < 4 then
        { s with dlk := { s.dlk with refusals := s.dlk.refusals ++ [(ty, reason)] } }
      else counted
     (s.dlk.rx.frame = none → s.dlk.rx.bytes ≠ [] →
      exec .frameDropped s = .next (cleared counted).settle) ∧
     (∀ (ty : Byte) (payload : List Byte) (raw : RawInputs), s.dlk.rx.frame = some (ty, payload) →
      let command : Instr :=
        if ty = 17 then .demand
        else if ty = 18 then
          (if payload.head? = some 1 then .pantoRaise else if payload.head? = some 2 then .pantoLower
           else .pantoBadValue)
        else if ty = 19 then .gap else if ty = 20 then .query else if ty = 21 then .restart raw else .frameDropped
      let length : Nat := if ty = 17 then 5 else if ty = 18 then 1 else if ty = 19 then 4 else 0
      (s.cfl.loader ≠ .ready → ty ≠ 20 → exec command s = .next (cleared (refused ty .state)).settle) ∧
      (s.cfl.loader = .ready → ty.toNat < 17 ∨ 21 < ty.toNat →
        exec command s = .next (cleared (refused ty .unknownType)).settle) ∧
      (s.cfl.loader = .ready ∨ ty = 20 → 17 ≤ ty.toNat → ty.toNat ≤ 21 → payload.length ≠ length →
        exec command s = .next (cleared (refused ty .badLength)).settle)))

/-- DEMAND, QUERY and the silence and stow timers (R121, R155, R158 to R160): a DEMAND in READY writes the own record
within Rt and starts both timers, ending silence and the stow condition; a QUERY asks for STATUS in every loader state;
the expiries begin silence, with its cap at DRP, and stand the stow condition, which takes ENGAGED to CUTTING. The stow
condition never stands without silence (R159), so its timer's expiry waits for silence (log entry 39). -/
def Obligations.DemandAndLinkTimers : Prop :=
  ∀ s : State, s.held = false →
    let cleared (u : State) : State :=
      { u with dlk := { u.dlk with
        rx := { bytes := [], overlong := false, byteError := false, receiving := false, lastEnd := none } } }
    (∀ code d1 d0 o1 o0 : Byte, s.cfl.loader = .ready → s.LineIdle →
      s.dlk.rx.frame = some (17, [code, d1, d0, o1, o0]) →
      (5 < code.toNat → exec .demand s = .next (cleared (s.refuse 17 .badClass)).settle) ∧
      (∀ cls : TruckClass, cls.code = code.toNat →
        let written : State := { s with dlk := { s.dlk with
          own := { cls := cls, demand := min (256 * d1.toNat + d0.toNat) s.cfg.rated,
                   offer := min (256 * o1.toNat + o0.toNat) s.cfg.rated },
          silence := false, stow := false,
          silenceTimer := some (s.now + BitVec.ofNat 32 s.cfg.silenceTime),
          stowTimer := some (s.now + BitVec.ofNat 32 s.cfg.stowTime) } }
        exec .demand s =
          .next (cleared (if s.dlk.silence then written.recompose false else written)).settle)) ∧
    (s.LineIdle → s.dlk.rx.frame = some (20, []) →
      exec .query s = .next (cleared { s with dlk := { s.dlk with statusPending := true } }).settle) ∧
    (∀ due : Tick, s.dlk.silenceTimer = some due → reached s.now due = true →
      exec .silenceTimerExpiry s = .next (State.settle (State.recompose { s with dlk := { s.dlk with
        silence := true, silenceTimer := none, sticky := { s.dlk.sticky with linkSilent := true } } } false))) ∧
    (s.dlk.silence = false → exec .stowTimerExpiry s = .next s) ∧
    (∀ due : Tick, s.dlk.silence = true → s.dlk.stowTimer = some due → reached s.now due = true →
      let standing : State := { s with dlk := { s.dlk with stow := true, stowTimer := none } }
      let cutting := (standing.setSticky .linkSilent).enterPsq .cutting
      (s.psq.state ≠ .engaged → exec .stowTimerExpiry s = .next standing.settle) ∧
      (s.psq.state = .engaged → exec .stowTimerExpiry s =
        .next (State.settle (if s.drp.applied = 0 then cutting.enterPsq .discharge else cutting))))

/-- The law of R164 and R130 over every command: a sticky fault leaves the set only in a STATUS frame that is composed
at this event and reports it, or at a reset; and each fault joins the set only at the events that set it. -/
def Obligations.StickyFaultsLeaveByReport : Prop :=
  ∀ (c : Instr) (s t : State) (f : StickyFault), exec c s = .next t →
    (s.dlk.sticky.has f = true → t.dlk.sticky.has f = false → resets c = false →
      s.dlk.sending.isSome = false ∨ c = .transmitterFree) ∧
    (s.dlk.sticky.has f = true → t.dlk.sticky.has f = false → resets c = false →
      ∃ (sent : Sending) (report : StatusFrame), t.dlk.sending = some sent ∧ sent.frame = .status report ∧
        sent.startedAt = s.instant ∧ report.sticky.has f = true ∧ t.dlk.statusPending = false) ∧
    (s.dlk.sticky.has f = false → t.dlk.sticky.has f = true →
      match f with
      | .raiseFail => c = .raiseTimeout ∨ c = .contactReturn ∨ c = .filterEdge .contact true
      | .prechargeFail => c = .contactLoss ∨ c = .filterEdge .contact false
      | .arcTrip => c = .ringAdvance
      | .linkSilent => c = .silenceTimerExpiry ∨ c = .stowTimerExpiry ∨ c = .prechargeExpiry
      | .dropoutTimeout => c = .reacquireExpiry
      | .stuckUp => c = .retractTimeout
      | .falseGap => c = .graceExpiry
      | .idSeenElsewhere => ∃ ch : Channel, (∃ mark : Bool, c = .noticeReceived ch mark) ∨
          ∃ steady passing : List Component, c = .symbolDecision ch steady passing)

/-! ## Layouts -/

/-- Notices and frames read back what they were written from (R5, R12, R157, R172 to R174): a notice is sent as the 16
symbols of preamble and sync, its body with every field at its bits, and the check (R5, R173), and it comes back from
its 48 body bits with a check that agrees; a receive buffer holds a frame exactly where its bytes are that frame's type,
length, payload and check, with neither mark set; the three outbound frames are such bytes, each with its type and its
payload byte for byte (R174, R175); and the loader reads each field of the configuration block from its bytes (R176). -/
def Obligations.NoticesAndFramesReadBack : Prop :=
  (∀ n : Notice, n.body.length = 48 ∧ Notice.ofBody n.body = n ∧ n.record.length = 64 ∧ n.frame.length = 80 ∧
    Notice.ofBody (n.record.take 48) = n ∧
    (crcOfBits (n.record.take 48)).toNat = numberMsb (n.record.drop 48) ∧
    n.frame.take 16 = [true, false, true, false, true, false, true, false,
                       true, false, true, true, false, true, false, false] ∧
    n.frame.drop 16 = n.record ∧ n.record.take 48 = n.body ∧
    (∀ i : Nat,
      (i < 8 → n.body[i]? = some (n.station.getMsbD i)) ∧
      (i < 4 → n.body[8 + i]? = some (n.seq.getMsbD i)) ∧
      (i < 3 → n.body[12 + i]? = some (n.cls.getMsbD i)) ∧
      (i < 9 → n.body[19 + i]? = some (n.demand.getMsbD i)) ∧
      (i < 9 → n.body[28 + i]? = some (n.offer.getMsbD i)) ∧
      (i < 8 → n.body[37 + i]? = some (n.volts.getMsbD i)) ∧
      (i < 3 → n.body[45 + i]? = some (n.pilot.getMsbD i)) ∧
      (i < 16 → n.record[48 + i]? = some ((crcOfBits n.body).getMsbD i))) ∧
    n.body[15]? = some n.flags.guarded ∧ n.body[16]? = some n.flags.solo ∧
    n.body[17]? = some n.flags.derated ∧ n.body[18]? = some n.flags.gapArmed) ∧
  (∀ (rx : RxBuffer) (ty : Byte) (payload : List Byte),
    rx.frame = some (ty, payload) ↔
      rx.overlong = false ∧ rx.byteError = false ∧ payload.length < 256 ∧
      ∃ high low : Byte, rx.bytes = ty :: BitVec.ofNat 8 payload.length :: payload ++ [high, low] ∧
        256 * high.toNat + low.toNat = (crcOfBytes (ty :: BitVec.ofNat 8 payload.length :: payload)).toNat) ∧
  (∀ (f : OutFrame) (rx : RxBuffer), rx.bytes = f.bytes → rx.overlong = false → rx.byteError = false →
    let b (n : Nat) : Byte := BitVec.ofNat 8 n
    let bit (member : Bool) (place : Nat) : Nat := if member then 2 ^ place else 0
    match f with
    | .refuse ty reason => rx.frame = some (35#8, [ty, match reason with
        | .state => 1 | .unknownType => 2 | .badLength => 3 | .badClass => 4 | .badValue => 5])
    | .limit l => rx.frame = some (33#8, [b (l.applied / 256), b l.applied, b (l.target / 256), b l.target,
        b (l.grant / 256), b l.grant, b (l.regen / 256), b l.regen, b (l.chopper / 256), b l.chopper,
        (match l.ramp with | .steady => 0 | .rising => 1 | .falling => 2 | .held => 3 | .cutting => 4),
        (match l.sequencer with
          | .stowed => 0 | .raising => 1 | .precharge => 2 | .engaged => 3 | .cutting => 4 | .dropout => 5
          | .gapCoast => 6 | .discharge => 7 | .retracting => 8 | .stuck => 9),
        (match l.level with | .full => 0 | .guarded => 1 | .solo => 2), b (l.vAvg / 256), b l.vAvg,
        BitVec.ofInt 8 (l.iAvg / 256), BitVec.ofInt 8 l.iAvg, if l.collapse then 1 else 0])
    | .status r => rx.frame = some (34#8, [
        (match r.resetCause with | .powerOn => 1 | .pin => 2 | .restart => 3),
        (match r.loader with | .loading => 0x00 | .ready => 0x10 | .halted => 0x20) |||
          (match r.haltReason with | .noReason => 0 | .crc => 1 | .range => 2),
        b (bit r.causes.clash 0 + bit r.causes.pilotLost 1 + bit r.causes.sectionUnknown 2 + bit r.causes.rejoin 3 +
          bit r.causes.lossy 4 + bit r.causes.voltSuspect 5 + bit r.causes.overdraw 6),
        b (bit r.sticky.raiseFail 0 + bit r.sticky.prechargeFail 1 + bit r.sticky.arcTrip 2 +
          bit r.sticky.linkSilent 3 + bit r.sticky.dropoutTimeout 4 + bit r.sticky.stuckUp 5 +
          bit r.sticky.falseGap 6 + bit r.sticky.idSeenElsewhere 7),
        b (bit r.sectionKnown 7 + r.sectionIndex.toNat), b r.entryCount, b r.contestedCount, b r.reducedCount,
        b r.deratedCount, b (r.errorSum / 256), b r.errorSum, b r.foreign,
        (match r.transmitter with | .off => 0x00 | .idle => 0x10 | .sending => 0x20 | .muted => 0x30) |||
          b r.ownSeq.toNat, b r.dropped, r.published, r.voided,
        (match r.last.ending with | .noEnding => 0 | .completed => 1 | .retargeted => 2 | .held => 3 | .cut => 4),
        b (r.last.steps / 256), b r.last.steps])) ∧
  (∀ block : List Byte, block.length = 112 →
    let one (i : Nat) : Nat := (block.getD i 0).toNat
    let two (i : Nat) : Nat := 256 * one i + one (i + 1)
    Image.ofBlock block = {
      stationId := one 0, ownChannel := Fin.ofNat 16 (one 1 / 16), staleLimit := one 1 % 16, period := two 2,
      sectionCount := one 4, guardPercent := one 5, rated := two 6, soloShare := two 8, auxDraw := one 10,
      lossyThreshold := one 11, recoveryRounds := one 12, overdrawMargin := one 13, voltWindow := two 14,
      vCollapse := two 16, vFloor := two 18, vStart := two 20, vTaper := two 22, vCut := two 24, slewUp := one 26,
      slewDown := one 27, slewCut := one 28, deadTime := one 29, chopperRating := two 30, bounceMax := one 32,
      contactClock := one 33, arcWarn := two 34, arcTrip := two 36, raiseTimeout := two 38, retractTimeout := two 40,
      prechargeTime := two 42, reacquireTime := two 44, coastMaximum := two 46, dischargeTime := two 48,
      upClock := one 50, downClock := one 51, pilotTimeout := two 52, gapMargin := two 54, gapGrace := two 56,
      silenceTime := two 58, stowTime := two 60,
      sections := ((List.range 8).map (fun i => {
        pilot := one (62 + 6 * i), capacity := two (63 + 6 * i), reserve := one (65 + 6 * i),
        accept := one (66 + 6 * i), absorb := one (67 + 6 * i) })).take (one 4) })

/-! ## Invariants -/

/-- Every law that the statements below say each step keeps holds of the part right after reset. -/
def Obligations.LawsHoldAtReset : Prop :=
  let s := State.reset
  s.Interlocked ∧ s.ChopperSound ∧ s.DrawBounded ∧ s.ReferenceFollows ∧ s.TermsAgree ∧ s.QuietUnlessReady ∧
  s.ImageSound ∧ s.TableSound ∧ s.ConfidenceSound ∧ s.CausesFollow ∧ s.RingsSound ∧ s.PairsTimely ∧ s.ArcRingSound ∧
  s.LinkSound ∧ s.PublishedSound

/-- The laws of R91, R93 and R114: every step keeps the outputs as the sequencer state gives them (contactor, precharge
and discharge never two on together), the chopper's drive state and values in force, and its switches apart. The output
pins carry what those blocks hold (Section 11.5), the carrier the divider's level in SENDING (R4), and the drive-link
transmit line, idle high, each byte of the frame being sent as a start bit, eight data bits from the least significant,
and a stop bit (R156, R172), each bit 569 synthesis clocks, 8 to the crystal cycle (R166). That the carrier output
stands low while it carries no tone is the model's choice, log entry 37. -/
def Obligations.OutputsStayInterlocked : Prop :=
  KeptByEveryStep (fun s => s.Interlocked ∧ s.ChopperSound) ∧
  ∀ s : State,
    s.pins.contactor = s.psq.contactor ∧ s.pins.precharge = s.psq.precharge ∧ s.pins.discharge = s.psq.discharge ∧
    (s.pins.raise = true ↔ s.psq.actuator = .raise) ∧ (s.pins.lower = true ↔ s.psq.actuator = .lower) ∧
    s.pins.dump = s.bch.dump ∧ s.pins.clamp = s.bch.clamp ∧ s.pins.limitRef = s.lrg.output ∧
    (s.pins.carrierOn = true ↔ s.ntx.state = .sending) ∧
    (s.pins.carrier = true ↔ s.ntx.state = .sending ∧ s.ntx.divider.level = true) ∧
    s.pins.spiSelect = s.cfl.reading ∧
    (s.dlk.sending = none → s.pins.transmit = true) ∧
    ∀ f : Sending, s.dlk.sending = some f →
      let clocks : Nat := 8 * (s.instant - f.startedAt).toNat
      (569 * (10 * f.frame.bytes.length) ≤ clocks → s.pins.transmit = true) ∧
      ∀ (i : Nat) (byte : Byte), f.frame.bytes[i]? = some byte →
        let during (bit : Nat) : Prop := 569 * (10 * i + bit) ≤ clocks ∧ clocks < 569 * (10 * i + bit + 1)
        (during 0 → s.pins.transmit = false) ∧
        (∀ b : Nat, b < 8 → during (b + 1) → s.pins.transmit = byte.getLsbD b) ∧
        (during 9 → s.pins.transmit = true)

/-- The law of R101 and the coupling of R102, R109 and R111: every step keeps A within Rt and at 0 while the contactor
is open, and the reference's current or pending code at A's code. -/
def Obligations.AppliedLimitStaysBounded : Prop := KeptByEveryStep State.ReferenceFollows

/-- R97, R98 and R105: every step keeps T, the caps, cut in force and hold at what the live terms give. -/
def Obligations.TargetFollowsItsTerms : Prop := KeptByEveryStep State.TermsAgree

/-- R168, R169 and R171: every step keeps the blocks at rest until READY and in HALTED, and a loaded image sound. -/
def Obligations.PartRestsUntilReady : Prop := KeptByEveryStep (fun s => s.QuietUnlessReady ∧ s.ImageSound)

/-- R15, R24, R25 and R28: every step keeps the peer table's records in their ranges, without the own station and
without an entry on the own channel. -/
def Obligations.PeerTableStaysSound : Prop := KeptByEveryStep State.TableSound

/-- The law of R148 and the causes' owners of R146: every step keeps the level at least as severe as the required level,
and the causes of NTX, SGM and MSU standing exactly while those blocks hold their conditions. -/
def Obligations.ConfidenceStaysSound : Prop :=
  KeptByEveryStep State.ConfidenceSound ∧ KeptByEveryStep State.CausesFollow

/-- R75, R76, R128, R155, R156, R159 and R161, and the bounds of R43 and R158: every step keeps the sample rings with
their sums and averages, the bounce ring, DLK's buffers and counts, the stow condition never standing without silence in
force, and the published values within Rt. R72: every step keeps each conversion pair within the millisecond of its tick,
so a new tick finds the sequencer IDLE. -/
def Obligations.BuffersStaySound : Prop :=
  KeptByEveryStep State.PairsTimely ∧
  (∀ s t : State, s.PairsTimely → step s = .next t → t.now ≠ s.now → t.msu.adc = .idle) ∧
  KeptByEveryStep State.RingsSound ∧ KeptByEveryStep State.ArcRingSound ∧ KeptByEveryStep State.LinkSound ∧
  KeptByEveryStep State.PublishedSound
end

