-- ==== Sys2Proof/Laws/StateOps.lean ====
section
/-! SUPPORT. Frames: what each shared operation of Machine/Ops.lean and Machine/Send.lean leaves unchanged. -/

namespace Sys2Proof.Machine

/-- What the taking of a free value leaves as it was. -/
@[simp] theorem State.drawn_frame (s : State) :
    s.drawn.held = s.held ∧ s.drawn.startAt = s.startAt ∧ s.drawn.tmb = s.tmb ∧ s.drawn.cfl = s.cfl ∧
    s.drawn.crx = s.crx ∧ s.drawn.ntx = s.ntx ∧ s.drawn.ptb = s.ptb ∧ s.drawn.sre = s.sre ∧
    s.drawn.cfm = s.cfm ∧ s.drawn.msu = s.msu ∧ s.drawn.drp = s.drp ∧ s.drawn.lrg = s.lrg ∧
    s.drawn.bch = s.bch ∧ s.drawn.psq = s.psq ∧ s.drawn.sgm = s.sgm ∧ s.drawn.dlk = s.dlk ∧
    s.drawn.pending = s.pending ∧ s.drawn.now = s.now ∧ s.drawn.instant = s.instant ∧ s.drawn.cfg = s.cfg ∧
    s.drawn.isReady = s.isReady ∧ s.drawn.sectionIndex = s.sectionIndex ∧
    s.drawn.sectionKnown = s.sectionKnown := by
  and_intros <;> rfl

/-- What a sticky-fault request leaves as it was. -/
@[simp] theorem State.setSticky_frame (s : State) (f : StickyFault) :
    (s.setSticky f).held = s.held ∧ (s.setSticky f).startAt = s.startAt ∧ (s.setSticky f).tmb = s.tmb ∧
    (s.setSticky f).cfl = s.cfl ∧ (s.setSticky f).crx = s.crx ∧ (s.setSticky f).ntx = s.ntx ∧
    (s.setSticky f).ptb = s.ptb ∧ (s.setSticky f).sre = s.sre ∧ (s.setSticky f).cfm = s.cfm ∧
    (s.setSticky f).msu = s.msu ∧ (s.setSticky f).drp = s.drp ∧ (s.setSticky f).lrg = s.lrg ∧
    (s.setSticky f).bch = s.bch ∧ (s.setSticky f).psq = s.psq ∧ (s.setSticky f).sgm = s.sgm ∧
    (s.setSticky f).fresh = s.fresh ∧ (s.setSticky f).pending = s.pending ∧ (s.setSticky f).now = s.now ∧
    (s.setSticky f).instant = s.instant ∧ (s.setSticky f).cfg = s.cfg ∧
    (s.setSticky f).isReady = s.isReady ∧ (s.setSticky f).sectionIndex = s.sectionIndex ∧
    (s.setSticky f).sectionKnown = s.sectionKnown := by
  and_intros <;> rfl

/-- What a STATUS trigger leaves as it was. -/
@[simp] theorem State.triggerStatus_frame (s : State) :
    s.triggerStatus.held = s.held ∧ s.triggerStatus.startAt = s.startAt ∧ s.triggerStatus.tmb = s.tmb ∧
    s.triggerStatus.cfl = s.cfl ∧ s.triggerStatus.crx = s.crx ∧ s.triggerStatus.ntx = s.ntx ∧
    s.triggerStatus.ptb = s.ptb ∧ s.triggerStatus.sre = s.sre ∧ s.triggerStatus.cfm = s.cfm ∧
    s.triggerStatus.msu = s.msu ∧ s.triggerStatus.drp = s.drp ∧ s.triggerStatus.lrg = s.lrg ∧
    s.triggerStatus.bch = s.bch ∧ s.triggerStatus.psq = s.psq ∧ s.triggerStatus.sgm = s.sgm ∧
    s.triggerStatus.fresh = s.fresh ∧ s.triggerStatus.pending = s.pending ∧ s.triggerStatus.now = s.now ∧
    s.triggerStatus.instant = s.instant ∧ s.triggerStatus.cfg = s.cfg ∧
    s.triggerStatus.isReady = s.isReady ∧ s.triggerStatus.sectionIndex = s.sectionIndex ∧
    s.triggerStatus.sectionKnown = s.sectionKnown := by
  and_intros <;> rfl

/-- What a conditional STATUS trigger leaves as it was. -/
@[simp] theorem State.triggerStatusIf_frame (s : State) (b : Bool) :
    (s.triggerStatusIf b).held = s.held ∧ (s.triggerStatusIf b).startAt = s.startAt ∧
    (s.triggerStatusIf b).tmb = s.tmb ∧ (s.triggerStatusIf b).cfl = s.cfl ∧
    (s.triggerStatusIf b).crx = s.crx ∧ (s.triggerStatusIf b).ntx = s.ntx ∧
    (s.triggerStatusIf b).ptb = s.ptb ∧ (s.triggerStatusIf b).sre = s.sre ∧
    (s.triggerStatusIf b).cfm = s.cfm ∧ (s.triggerStatusIf b).msu = s.msu ∧
    (s.triggerStatusIf b).drp = s.drp ∧ (s.triggerStatusIf b).lrg = s.lrg ∧
    (s.triggerStatusIf b).bch = s.bch ∧ (s.triggerStatusIf b).psq = s.psq ∧
    (s.triggerStatusIf b).sgm = s.sgm ∧ (s.triggerStatusIf b).fresh = s.fresh ∧
    (s.triggerStatusIf b).pending = s.pending ∧ (s.triggerStatusIf b).now = s.now ∧
    (s.triggerStatusIf b).instant = s.instant ∧ (s.triggerStatusIf b).cfg = s.cfg ∧
    (s.triggerStatusIf b).isReady = s.isReady ∧ (s.triggerStatusIf b).sectionIndex = s.sectionIndex ∧
    (s.triggerStatusIf b).sectionKnown = s.sectionKnown := by
  and_intros <;> (simp only [State.triggerStatusIf]; (repeat' split) <;> simp [State.now, State.instant, State.cfg, State.isReady, State.sectionIndex, State.sectionKnown])

/-- What a new CFM leaves as it was. -/
@[simp] theorem State.withCfm_frame (s : State) (m : Cfm) :
    (s.withCfm m).held = s.held ∧ (s.withCfm m).startAt = s.startAt ∧ (s.withCfm m).tmb = s.tmb ∧
    (s.withCfm m).cfl = s.cfl ∧ (s.withCfm m).crx = s.crx ∧ (s.withCfm m).ntx = s.ntx ∧
    (s.withCfm m).ptb = s.ptb ∧ (s.withCfm m).sre = s.sre ∧ (s.withCfm m).msu = s.msu ∧
    (s.withCfm m).drp = s.drp ∧ (s.withCfm m).lrg = s.lrg ∧ (s.withCfm m).bch = s.bch ∧
    (s.withCfm m).psq = s.psq ∧ (s.withCfm m).sgm = s.sgm ∧ (s.withCfm m).fresh = s.fresh ∧
    (s.withCfm m).pending = s.pending ∧ (s.withCfm m).now = s.now ∧ (s.withCfm m).instant = s.instant ∧
    (s.withCfm m).cfg = s.cfg ∧ (s.withCfm m).isReady = s.isReady ∧
    (s.withCfm m).sectionIndex = s.sectionIndex ∧ (s.withCfm m).sectionKnown = s.sectionKnown := by
  and_intros <;> (simp only [State.withCfm]; simp [State.now, State.instant, State.cfg, State.isReady, State.sectionIndex, State.sectionKnown])

/-- What a raise request leaves as it was. -/
@[simp] theorem State.raiseCause_frame (s : State) (c : Cause) :
    (s.raiseCause c).held = s.held ∧ (s.raiseCause c).startAt = s.startAt ∧ (s.raiseCause c).tmb = s.tmb ∧
    (s.raiseCause c).cfl = s.cfl ∧ (s.raiseCause c).crx = s.crx ∧ (s.raiseCause c).ntx = s.ntx ∧
    (s.raiseCause c).ptb = s.ptb ∧ (s.raiseCause c).sre = s.sre ∧ (s.raiseCause c).msu = s.msu ∧
    (s.raiseCause c).drp = s.drp ∧ (s.raiseCause c).lrg = s.lrg ∧ (s.raiseCause c).bch = s.bch ∧
    (s.raiseCause c).psq = s.psq ∧ (s.raiseCause c).sgm = s.sgm ∧ (s.raiseCause c).fresh = s.fresh ∧
    (s.raiseCause c).pending = s.pending ∧ (s.raiseCause c).now = s.now ∧
    (s.raiseCause c).instant = s.instant ∧ (s.raiseCause c).cfg = s.cfg ∧
    (s.raiseCause c).isReady = s.isReady ∧ (s.raiseCause c).sectionIndex = s.sectionIndex ∧
    (s.raiseCause c).sectionKnown = s.sectionKnown := by
  and_intros <;> (simp only [State.raiseCause]; simp [State.now, State.instant, State.cfg, State.isReady, State.sectionIndex, State.sectionKnown])

/-- What a clear request leaves as it was. -/
@[simp] theorem State.clearCause_frame (s : State) (c : Cause) :
    (s.clearCause c).held = s.held ∧ (s.clearCause c).startAt = s.startAt ∧ (s.clearCause c).tmb = s.tmb ∧
    (s.clearCause c).cfl = s.cfl ∧ (s.clearCause c).crx = s.crx ∧ (s.clearCause c).ntx = s.ntx ∧
    (s.clearCause c).ptb = s.ptb ∧ (s.clearCause c).sre = s.sre ∧ (s.clearCause c).msu = s.msu ∧
    (s.clearCause c).drp = s.drp ∧ (s.clearCause c).lrg = s.lrg ∧ (s.clearCause c).bch = s.bch ∧
    (s.clearCause c).psq = s.psq ∧ (s.clearCause c).sgm = s.sgm ∧ (s.clearCause c).fresh = s.fresh ∧
    (s.clearCause c).pending = s.pending ∧ (s.clearCause c).now = s.now ∧
    (s.clearCause c).instant = s.instant ∧ (s.clearCause c).cfg = s.cfg ∧
    (s.clearCause c).isReady = s.isReady ∧ (s.clearCause c).sectionIndex = s.sectionIndex ∧
    (s.clearCause c).sectionKnown = s.sectionKnown := by
  and_intros <;> (simp only [State.clearCause]; simp [State.now, State.instant, State.cfg, State.isReady, State.sectionIndex, State.sectionKnown])

/-- What a report of SRE leaves as it was. -/
@[simp] theorem State.reportCause_frame (s : State) (c : Cause) (b : Bool) :
    (s.reportCause c b).held = s.held ∧ (s.reportCause c b).startAt = s.startAt ∧
    (s.reportCause c b).tmb = s.tmb ∧ (s.reportCause c b).cfl = s.cfl ∧ (s.reportCause c b).crx = s.crx ∧
    (s.reportCause c b).ntx = s.ntx ∧ (s.reportCause c b).ptb = s.ptb ∧ (s.reportCause c b).sre = s.sre ∧
    (s.reportCause c b).msu = s.msu ∧ (s.reportCause c b).drp = s.drp ∧ (s.reportCause c b).lrg = s.lrg ∧
    (s.reportCause c b).bch = s.bch ∧ (s.reportCause c b).psq = s.psq ∧ (s.reportCause c b).sgm = s.sgm ∧
    (s.reportCause c b).fresh = s.fresh ∧ (s.reportCause c b).pending = s.pending ∧
    (s.reportCause c b).now = s.now ∧ (s.reportCause c b).instant = s.instant ∧
    (s.reportCause c b).cfg = s.cfg ∧ (s.reportCause c b).isReady = s.isReady ∧
    (s.reportCause c b).sectionIndex = s.sectionIndex ∧
    (s.reportCause c b).sectionKnown = s.sectionKnown := by
  and_intros <;> (simp only [State.reportCause]; (repeat' split) <;> simp [State.now, State.instant, State.cfg, State.isReady, State.sectionIndex, State.sectionKnown])

/-- What a new PSQ leaves as it was. -/
@[simp] theorem State.withPsq_frame (s : State) (p : Psq) :
    (s.withPsq p).held = s.held ∧ (s.withPsq p).startAt = s.startAt ∧ (s.withPsq p).tmb = s.tmb ∧
    (s.withPsq p).cfl = s.cfl ∧ (s.withPsq p).crx = s.crx ∧ (s.withPsq p).ntx = s.ntx ∧
    (s.withPsq p).ptb = s.ptb ∧ (s.withPsq p).sre = s.sre ∧ (s.withPsq p).cfm = s.cfm ∧
    (s.withPsq p).msu = s.msu ∧ (s.withPsq p).drp = s.drp ∧ (s.withPsq p).lrg = s.lrg ∧
    (s.withPsq p).bch = s.bch ∧ (s.withPsq p).sgm = s.sgm ∧ (s.withPsq p).dlk = s.dlk ∧
    (s.withPsq p).fresh = s.fresh ∧ (s.withPsq p).pending = s.pending ∧ (s.withPsq p).now = s.now ∧
    (s.withPsq p).instant = s.instant ∧ (s.withPsq p).cfg = s.cfg ∧ (s.withPsq p).isReady = s.isReady ∧
    (s.withPsq p).sectionIndex = s.sectionIndex ∧ (s.withPsq p).sectionKnown = s.sectionKnown := by
  and_intros <;> rfl

/-- What a new SGM leaves as it was. -/
@[simp] theorem State.withSgm_frame (s : State) (g : Sgm) :
    (s.withSgm g).held = s.held ∧ (s.withSgm g).startAt = s.startAt ∧ (s.withSgm g).tmb = s.tmb ∧
    (s.withSgm g).cfl = s.cfl ∧ (s.withSgm g).crx = s.crx ∧ (s.withSgm g).ntx = s.ntx ∧
    (s.withSgm g).ptb = s.ptb ∧ (s.withSgm g).sre = s.sre ∧ (s.withSgm g).cfm = s.cfm ∧
    (s.withSgm g).msu = s.msu ∧ (s.withSgm g).drp = s.drp ∧ (s.withSgm g).lrg = s.lrg ∧
    (s.withSgm g).bch = s.bch ∧ (s.withSgm g).psq = s.psq ∧ (s.withSgm g).dlk = s.dlk ∧
    (s.withSgm g).fresh = s.fresh ∧ (s.withSgm g).pending = s.pending ∧ (s.withSgm g).now = s.now ∧
    (s.withSgm g).instant = s.instant ∧ (s.withSgm g).cfg = s.cfg ∧ (s.withSgm g).isReady = s.isReady := by
  and_intros <;> rfl

/-- What a new TMB leaves as it was. -/
@[simp] theorem State.withTmb_frame (s : State) (t : Tmb) :
    (s.withTmb t).held = s.held ∧ (s.withTmb t).startAt = s.startAt ∧ (s.withTmb t).cfl = s.cfl ∧
    (s.withTmb t).crx = s.crx ∧ (s.withTmb t).ntx = s.ntx ∧ (s.withTmb t).ptb = s.ptb ∧
    (s.withTmb t).sre = s.sre ∧ (s.withTmb t).cfm = s.cfm ∧ (s.withTmb t).msu = s.msu ∧
    (s.withTmb t).drp = s.drp ∧ (s.withTmb t).lrg = s.lrg ∧ (s.withTmb t).bch = s.bch ∧
    (s.withTmb t).psq = s.psq ∧ (s.withTmb t).sgm = s.sgm ∧ (s.withTmb t).dlk = s.dlk ∧
    (s.withTmb t).fresh = s.fresh ∧ (s.withTmb t).pending = s.pending ∧ (s.withTmb t).cfg = s.cfg ∧
    (s.withTmb t).isReady = s.isReady ∧ (s.withTmb t).sectionIndex = s.sectionIndex ∧
    (s.withTmb t).sectionKnown = s.sectionKnown := by
  and_intros <;> rfl

/-- What a refusal leaves as it was. -/
@[simp] theorem State.refuse_frame (s : State) (ty : Byte) (r : RefuseReason) :
    (s.refuse ty r).held = s.held ∧ (s.refuse ty r).startAt = s.startAt ∧ (s.refuse ty r).tmb = s.tmb ∧
    (s.refuse ty r).cfl = s.cfl ∧ (s.refuse ty r).crx = s.crx ∧ (s.refuse ty r).ntx = s.ntx ∧
    (s.refuse ty r).ptb = s.ptb ∧ (s.refuse ty r).sre = s.sre ∧ (s.refuse ty r).cfm = s.cfm ∧
    (s.refuse ty r).msu = s.msu ∧ (s.refuse ty r).drp = s.drp ∧ (s.refuse ty r).lrg = s.lrg ∧
    (s.refuse ty r).bch = s.bch ∧ (s.refuse ty r).psq = s.psq ∧ (s.refuse ty r).sgm = s.sgm ∧
    (s.refuse ty r).fresh = s.fresh ∧ (s.refuse ty r).pending = s.pending ∧ (s.refuse ty r).now = s.now ∧
    (s.refuse ty r).instant = s.instant ∧ (s.refuse ty r).cfg = s.cfg ∧
    (s.refuse ty r).isReady = s.isReady ∧ (s.refuse ty r).sectionIndex = s.sectionIndex ∧
    (s.refuse ty r).sectionKnown = s.sectionKnown := by
  and_intros <;> (simp only [State.refuse]; (repeat' split) <;> simp [State.now, State.instant, State.cfg, State.isReady, State.sectionIndex, State.sectionKnown])

/-- What the composition of STATUS leaves as it was. -/
@[simp] theorem State.composedStatus_frame (s : State) :
    s.composedStatus.held = s.held ∧ s.composedStatus.startAt = s.startAt ∧ s.composedStatus.tmb = s.tmb ∧
    s.composedStatus.cfl = s.cfl ∧ s.composedStatus.crx = s.crx ∧ s.composedStatus.ntx = s.ntx ∧
    s.composedStatus.sre = s.sre ∧ s.composedStatus.cfm = s.cfm ∧ s.composedStatus.msu = s.msu ∧
    s.composedStatus.drp = s.drp ∧ s.composedStatus.lrg = s.lrg ∧ s.composedStatus.bch = s.bch ∧
    s.composedStatus.psq = s.psq ∧ s.composedStatus.sgm = s.sgm ∧ s.composedStatus.fresh = s.fresh ∧
    s.composedStatus.pending = s.pending ∧ s.composedStatus.now = s.now ∧
    s.composedStatus.instant = s.instant ∧ s.composedStatus.cfg = s.cfg ∧
    s.composedStatus.isReady = s.isReady ∧ s.composedStatus.sectionIndex = s.sectionIndex ∧
    s.composedStatus.sectionKnown = s.sectionKnown := by
  and_intros <;> rfl

/-- What the start of a frame leaves as it was. -/
@[simp] theorem State.startSending_frame (s : State) (f : OutFrame) :
    (s.startSending f).held = s.held ∧ (s.startSending f).startAt = s.startAt ∧
    (s.startSending f).tmb = s.tmb ∧ (s.startSending f).cfl = s.cfl ∧ (s.startSending f).crx = s.crx ∧
    (s.startSending f).ntx = s.ntx ∧ (s.startSending f).ptb = s.ptb ∧ (s.startSending f).sre = s.sre ∧
    (s.startSending f).cfm = s.cfm ∧ (s.startSending f).msu = s.msu ∧ (s.startSending f).drp = s.drp ∧
    (s.startSending f).lrg = s.lrg ∧ (s.startSending f).bch = s.bch ∧ (s.startSending f).psq = s.psq ∧
    (s.startSending f).sgm = s.sgm ∧ (s.startSending f).fresh = s.fresh ∧
    (s.startSending f).pending = s.pending ∧ (s.startSending f).now = s.now ∧
    (s.startSending f).instant = s.instant ∧ (s.startSending f).cfg = s.cfg ∧
    (s.startSending f).isReady = s.isReady ∧ (s.startSending f).sectionIndex = s.sectionIndex ∧
    (s.startSending f).sectionKnown = s.sectionKnown := by
  and_intros <;> rfl

/-- What the transmitter's choice leaves as it was. -/
@[simp] theorem State.settle_frame (s : State) :
    s.settle.held = s.held ∧ s.settle.startAt = s.startAt ∧ s.settle.tmb = s.tmb ∧ s.settle.cfl = s.cfl ∧
    s.settle.crx = s.crx ∧ s.settle.ntx = s.ntx ∧ s.settle.sre = s.sre ∧ s.settle.cfm = s.cfm ∧
    s.settle.msu = s.msu ∧ s.settle.drp = s.drp ∧ s.settle.lrg = s.lrg ∧ s.settle.bch = s.bch ∧
    s.settle.psq = s.psq ∧ s.settle.sgm = s.sgm ∧ s.settle.fresh = s.fresh ∧ s.settle.pending = s.pending ∧
    s.settle.now = s.now ∧ s.settle.instant = s.instant ∧ s.settle.cfg = s.cfg ∧
    s.settle.isReady = s.isReady ∧ s.settle.sectionIndex = s.sectionIndex ∧
    s.settle.sectionKnown = s.sectionKnown := by
  and_intros <;> (simp only [State.settle]; (repeat' split) <;> simp [State.now, State.instant, State.cfg, State.isReady, State.sectionIndex, State.sectionKnown])

end Sys2Proof.Machine
end

