-- ==== Sys2Proof/Laws/DrawFrames.lean ====
section
/-! SUPPORT. Frames: what each shared operation of DrawOps, NoticeOps and PantoOps leaves unchanged. -/

namespace Sys2Proof.Machine

/-- What a new code leaves as it was. -/
@[simp] theorem State.handCode_frame (s : State) :
    s.handCode.held = s.held ∧ s.handCode.startAt = s.startAt ∧ s.handCode.tmb = s.tmb ∧
    s.handCode.cfl = s.cfl ∧ s.handCode.crx = s.crx ∧ s.handCode.ntx = s.ntx ∧ s.handCode.ptb = s.ptb ∧
    s.handCode.sre = s.sre ∧ s.handCode.cfm = s.cfm ∧ s.handCode.msu = s.msu ∧ s.handCode.drp = s.drp ∧
    s.handCode.bch = s.bch ∧ s.handCode.psq = s.psq ∧ s.handCode.sgm = s.sgm ∧ s.handCode.dlk = s.dlk ∧
    s.handCode.fresh = s.fresh ∧ s.handCode.pending = s.pending ∧ s.handCode.now = s.now ∧
    s.handCode.instant = s.instant ∧ s.handCode.cfg = s.cfg ∧ s.handCode.isReady = s.isReady ∧
    s.handCode.sectionIndex = s.sectionIndex ∧ s.handCode.sectionKnown = s.sectionKnown := by
  and_intros <;> rfl

/-- What a new code where A changed leaves as it was. -/
@[simp] theorem State.handCodeIf_frame (s : State) (b : Nat) :
    (s.handCodeIf b).held = s.held ∧ (s.handCodeIf b).startAt = s.startAt ∧ (s.handCodeIf b).tmb = s.tmb ∧
    (s.handCodeIf b).cfl = s.cfl ∧ (s.handCodeIf b).crx = s.crx ∧ (s.handCodeIf b).ntx = s.ntx ∧
    (s.handCodeIf b).ptb = s.ptb ∧ (s.handCodeIf b).sre = s.sre ∧ (s.handCodeIf b).cfm = s.cfm ∧
    (s.handCodeIf b).msu = s.msu ∧ (s.handCodeIf b).drp = s.drp ∧ (s.handCodeIf b).bch = s.bch ∧
    (s.handCodeIf b).psq = s.psq ∧ (s.handCodeIf b).sgm = s.sgm ∧ (s.handCodeIf b).dlk = s.dlk ∧
    (s.handCodeIf b).fresh = s.fresh ∧ (s.handCodeIf b).pending = s.pending ∧ (s.handCodeIf b).now = s.now ∧
    (s.handCodeIf b).instant = s.instant ∧ (s.handCodeIf b).cfg = s.cfg ∧
    (s.handCodeIf b).isReady = s.isReady ∧ (s.handCodeIf b).sectionIndex = s.sectionIndex ∧
    (s.handCodeIf b).sectionKnown = s.sectionKnown := by
  and_intros <;> (simp only [State.handCodeIf]; (repeat' split) <;> simp [State.now, State.instant, State.cfg, State.isReady, State.sectionIndex, State.sectionKnown])

/-- What a recomposition leaves as it was. -/
@[simp] theorem State.recompose_frame (s : State) (b : Bool) :
    (s.recompose b).held = s.held ∧ (s.recompose b).startAt = s.startAt ∧ (s.recompose b).tmb = s.tmb ∧
    (s.recompose b).cfl = s.cfl ∧ (s.recompose b).crx = s.crx ∧ (s.recompose b).ntx = s.ntx ∧
    (s.recompose b).ptb = s.ptb ∧ (s.recompose b).sre = s.sre ∧ (s.recompose b).cfm = s.cfm ∧
    (s.recompose b).msu = s.msu ∧ (s.recompose b).lrg = s.lrg ∧ (s.recompose b).bch = s.bch ∧
    (s.recompose b).psq = s.psq ∧ (s.recompose b).sgm = s.sgm ∧ (s.recompose b).dlk = s.dlk ∧
    (s.recompose b).fresh = s.fresh ∧ (s.recompose b).pending = s.pending ∧ (s.recompose b).now = s.now ∧
    (s.recompose b).instant = s.instant ∧ (s.recompose b).cfg = s.cfg ∧
    (s.recompose b).isReady = s.isReady ∧ (s.recompose b).sectionIndex = s.sectionIndex ∧
    (s.recompose b).sectionKnown = s.sectionKnown := by
  and_intros <;> (simp only [State.recompose]; (repeat' split) <;> simp [State.now, State.instant, State.cfg, State.isReady, State.sectionIndex, State.sectionKnown])

/-- What the zeroing leaves as it was. -/
@[simp] theorem State.zeroDraw_frame (s : State) :
    s.zeroDraw.held = s.held ∧ s.zeroDraw.startAt = s.startAt ∧ s.zeroDraw.tmb = s.tmb ∧
    s.zeroDraw.cfl = s.cfl ∧ s.zeroDraw.crx = s.crx ∧ s.zeroDraw.ntx = s.ntx ∧ s.zeroDraw.ptb = s.ptb ∧
    s.zeroDraw.sre = s.sre ∧ s.zeroDraw.cfm = s.cfm ∧ s.zeroDraw.msu = s.msu ∧ s.zeroDraw.bch = s.bch ∧
    s.zeroDraw.psq = s.psq ∧ s.zeroDraw.sgm = s.sgm ∧ s.zeroDraw.dlk = s.dlk ∧ s.zeroDraw.fresh = s.fresh ∧
    s.zeroDraw.pending = s.pending ∧ s.zeroDraw.now = s.now ∧ s.zeroDraw.instant = s.instant ∧
    s.zeroDraw.cfg = s.cfg ∧ s.zeroDraw.isReady = s.isReady ∧ s.zeroDraw.sectionIndex = s.sectionIndex ∧
    s.zeroDraw.sectionKnown = s.sectionKnown := by
  and_intros <;> (simp only [State.zeroDraw]; simp [State.now, State.instant, State.cfg, State.isReady, State.sectionIndex, State.sectionKnown])

/-- What the chopper's values and drive state leaves as it was. -/
@[simp] theorem State.refreshChopper_frame (s : State) :
    s.refreshChopper.held = s.held ∧ s.refreshChopper.startAt = s.startAt ∧ s.refreshChopper.tmb = s.tmb ∧
    s.refreshChopper.cfl = s.cfl ∧ s.refreshChopper.crx = s.crx ∧ s.refreshChopper.ntx = s.ntx ∧
    s.refreshChopper.ptb = s.ptb ∧ s.refreshChopper.sre = s.sre ∧ s.refreshChopper.cfm = s.cfm ∧
    s.refreshChopper.msu = s.msu ∧ s.refreshChopper.drp = s.drp ∧ s.refreshChopper.lrg = s.lrg ∧
    s.refreshChopper.psq = s.psq ∧ s.refreshChopper.sgm = s.sgm ∧ s.refreshChopper.dlk = s.dlk ∧
    s.refreshChopper.fresh = s.fresh ∧ s.refreshChopper.pending = s.pending ∧ s.refreshChopper.now = s.now ∧
    s.refreshChopper.instant = s.instant ∧ s.refreshChopper.cfg = s.cfg ∧
    s.refreshChopper.isReady = s.isReady ∧ s.refreshChopper.sectionIndex = s.sectionIndex ∧
    s.refreshChopper.sectionKnown = s.sectionKnown := by
  and_intros <;> (simp only [State.refreshChopper]; (repeat' split) <;> simp [State.now, State.instant, State.cfg, State.isReady, State.sectionIndex, State.sectionKnown])

/-- What a changed term of DRP and BCH leaves as it was. -/
@[simp] theorem State.redraw_frame (s : State) (b : Bool) :
    (s.redraw b).held = s.held ∧ (s.redraw b).startAt = s.startAt ∧ (s.redraw b).tmb = s.tmb ∧
    (s.redraw b).cfl = s.cfl ∧ (s.redraw b).crx = s.crx ∧ (s.redraw b).ntx = s.ntx ∧
    (s.redraw b).ptb = s.ptb ∧ (s.redraw b).sre = s.sre ∧ (s.redraw b).cfm = s.cfm ∧
    (s.redraw b).msu = s.msu ∧ (s.redraw b).lrg = s.lrg ∧ (s.redraw b).psq = s.psq ∧
    (s.redraw b).sgm = s.sgm ∧ (s.redraw b).dlk = s.dlk ∧ (s.redraw b).fresh = s.fresh ∧
    (s.redraw b).pending = s.pending ∧ (s.redraw b).now = s.now ∧ (s.redraw b).instant = s.instant ∧
    (s.redraw b).cfg = s.cfg ∧ (s.redraw b).isReady = s.isReady ∧
    (s.redraw b).sectionIndex = s.sectionIndex ∧ (s.redraw b).sectionKnown = s.sectionKnown := by
  and_intros <;> (simp only [State.redraw]; simp [State.now, State.instant, State.cfg, State.isReady, State.sectionIndex, State.sectionKnown])

/-- What a new NTX leaves as it was. -/
@[simp] theorem State.withNtx_frame (s : State) (n : Ntx) :
    (s.withNtx n).held = s.held ∧ (s.withNtx n).startAt = s.startAt ∧ (s.withNtx n).tmb = s.tmb ∧
    (s.withNtx n).cfl = s.cfl ∧ (s.withNtx n).crx = s.crx ∧ (s.withNtx n).ptb = s.ptb ∧
    (s.withNtx n).sre = s.sre ∧ (s.withNtx n).cfm = s.cfm ∧ (s.withNtx n).msu = s.msu ∧
    (s.withNtx n).drp = s.drp ∧ (s.withNtx n).lrg = s.lrg ∧ (s.withNtx n).bch = s.bch ∧
    (s.withNtx n).psq = s.psq ∧ (s.withNtx n).sgm = s.sgm ∧ (s.withNtx n).fresh = s.fresh ∧
    (s.withNtx n).pending = s.pending ∧ (s.withNtx n).now = s.now ∧ (s.withNtx n).instant = s.instant ∧
    (s.withNtx n).cfg = s.cfg ∧ (s.withNtx n).isReady = s.isReady ∧
    (s.withNtx n).sectionIndex = s.sectionIndex ∧ (s.withNtx n).sectionKnown = s.sectionKnown := by
  and_intros <;> (simp only [State.withNtx]; simp [State.now, State.instant, State.cfg, State.isReady, State.sectionIndex, State.sectionKnown])

/-- What the start of a notice leaves as it was. -/
@[simp] theorem State.startNotice_frame (s : State) :
    s.startNotice.held = s.held ∧ s.startNotice.startAt = s.startAt ∧ s.startNotice.tmb = s.tmb ∧
    s.startNotice.cfl = s.cfl ∧ s.startNotice.crx = s.crx ∧ s.startNotice.ptb = s.ptb ∧
    s.startNotice.sre = s.sre ∧ s.startNotice.cfm = s.cfm ∧ s.startNotice.msu = s.msu ∧
    s.startNotice.drp = s.drp ∧ s.startNotice.lrg = s.lrg ∧ s.startNotice.bch = s.bch ∧
    s.startNotice.psq = s.psq ∧ s.startNotice.sgm = s.sgm ∧ s.startNotice.pending = s.pending ∧
    s.startNotice.now = s.now ∧ s.startNotice.instant = s.instant ∧ s.startNotice.cfg = s.cfg ∧
    s.startNotice.isReady = s.isReady ∧ s.startNotice.sectionIndex = s.sectionIndex ∧
    s.startNotice.sectionKnown = s.sectionKnown := by
  and_intros <;> (simp only [State.startNotice]; simp [State.now, State.instant, State.cfg, State.isReady, State.sectionIndex, State.sectionKnown])

/-- What an entry to IDLE leaves as it was. -/
@[simp] theorem State.enterIdle_frame (s : State) :
    s.enterIdle.held = s.held ∧ s.enterIdle.startAt = s.startAt ∧ s.enterIdle.tmb = s.tmb ∧
    s.enterIdle.cfl = s.cfl ∧ s.enterIdle.crx = s.crx ∧ s.enterIdle.ptb = s.ptb ∧ s.enterIdle.sre = s.sre ∧
    s.enterIdle.cfm = s.cfm ∧ s.enterIdle.msu = s.msu ∧ s.enterIdle.drp = s.drp ∧ s.enterIdle.lrg = s.lrg ∧
    s.enterIdle.bch = s.bch ∧ s.enterIdle.psq = s.psq ∧ s.enterIdle.sgm = s.sgm ∧
    s.enterIdle.fresh = s.fresh ∧ s.enterIdle.pending = s.pending ∧ s.enterIdle.now = s.now ∧
    s.enterIdle.instant = s.instant ∧ s.enterIdle.cfg = s.cfg ∧ s.enterIdle.isReady = s.isReady ∧
    s.enterIdle.sectionIndex = s.sectionIndex ∧ s.enterIdle.sectionKnown = s.sectionKnown := by
  and_intros <;> (simp only [State.enterIdle]; simp [State.now, State.instant, State.cfg, State.isReady, State.sectionIndex, State.sectionKnown])

/-- What an entry to MUTED leaves as it was. -/
@[simp] theorem State.enterMuted_frame (s : State) (b : Bool) :
    (s.enterMuted b).held = s.held ∧ (s.enterMuted b).startAt = s.startAt ∧ (s.enterMuted b).tmb = s.tmb ∧
    (s.enterMuted b).cfl = s.cfl ∧ (s.enterMuted b).crx = s.crx ∧ (s.enterMuted b).ptb = s.ptb ∧
    (s.enterMuted b).sre = s.sre ∧ (s.enterMuted b).msu = s.msu ∧ (s.enterMuted b).drp = s.drp ∧
    (s.enterMuted b).lrg = s.lrg ∧ (s.enterMuted b).bch = s.bch ∧ (s.enterMuted b).psq = s.psq ∧
    (s.enterMuted b).sgm = s.sgm ∧ (s.enterMuted b).fresh = s.fresh ∧ (s.enterMuted b).pending = s.pending ∧
    (s.enterMuted b).now = s.now ∧ (s.enterMuted b).instant = s.instant ∧ (s.enterMuted b).cfg = s.cfg ∧
    (s.enterMuted b).isReady = s.isReady ∧ (s.enterMuted b).sectionIndex = s.sectionIndex ∧
    (s.enterMuted b).sectionKnown = s.sectionKnown := by
  and_intros <;> (simp only [State.enterMuted]; (repeat' split) <;> simp [State.now, State.instant, State.cfg, State.isReady, State.sectionIndex, State.sectionKnown])

/-- What the completion of a notice leaves as it was. -/
@[simp] theorem State.completeNotice_frame (s : State) :
    s.completeNotice.held = s.held ∧ s.completeNotice.startAt = s.startAt ∧ s.completeNotice.tmb = s.tmb ∧
    s.completeNotice.cfl = s.cfl ∧ s.completeNotice.crx = s.crx ∧ s.completeNotice.ptb = s.ptb ∧
    s.completeNotice.sre = s.sre ∧ s.completeNotice.msu = s.msu ∧ s.completeNotice.drp = s.drp ∧
    s.completeNotice.lrg = s.lrg ∧ s.completeNotice.bch = s.bch ∧ s.completeNotice.psq = s.psq ∧
    s.completeNotice.sgm = s.sgm ∧ s.completeNotice.fresh = s.fresh ∧ s.completeNotice.pending = s.pending ∧
    s.completeNotice.now = s.now ∧ s.completeNotice.instant = s.instant ∧ s.completeNotice.cfg = s.cfg ∧
    s.completeNotice.isReady = s.isReady ∧ s.completeNotice.sectionIndex = s.sectionIndex ∧
    s.completeNotice.sectionKnown = s.sectionKnown := by
  and_intros <;> (simp only [State.completeNotice]; (repeat' split) <;> simp [State.now, State.instant, State.cfg, State.isReady, State.sectionIndex, State.sectionKnown])

/-- What the abort of a notice leaves as it was. -/
@[simp] theorem State.abortNotice_frame (s : State) :
    s.abortNotice.held = s.held ∧ s.abortNotice.startAt = s.startAt ∧ s.abortNotice.tmb = s.tmb ∧
    s.abortNotice.cfl = s.cfl ∧ s.abortNotice.crx = s.crx ∧ s.abortNotice.ptb = s.ptb ∧
    s.abortNotice.sre = s.sre ∧ s.abortNotice.msu = s.msu ∧ s.abortNotice.drp = s.drp ∧
    s.abortNotice.lrg = s.lrg ∧ s.abortNotice.bch = s.bch ∧ s.abortNotice.psq = s.psq ∧
    s.abortNotice.sgm = s.sgm ∧ s.abortNotice.fresh = s.fresh ∧ s.abortNotice.pending = s.pending ∧
    s.abortNotice.now = s.now ∧ s.abortNotice.instant = s.instant ∧ s.abortNotice.cfg = s.cfg ∧
    s.abortNotice.isReady = s.isReady ∧ s.abortNotice.sectionIndex = s.sectionIndex ∧
    s.abortNotice.sectionKnown = s.sectionKnown := by
  and_intros <;> (simp only [State.abortNotice]; (repeat' split) <;> simp [State.now, State.instant, State.cfg, State.isReady, State.sectionIndex, State.sectionKnown])

/-- What a step of the quiet count leaves as it was. -/
@[simp] theorem State.quietStep_frame (s : State) :
    s.quietStep.held = s.held ∧ s.quietStep.startAt = s.startAt ∧ s.quietStep.tmb = s.tmb ∧
    s.quietStep.cfl = s.cfl ∧ s.quietStep.crx = s.crx ∧ s.quietStep.ptb = s.ptb ∧ s.quietStep.sre = s.sre ∧
    s.quietStep.msu = s.msu ∧ s.quietStep.drp = s.drp ∧ s.quietStep.lrg = s.lrg ∧ s.quietStep.bch = s.bch ∧
    s.quietStep.psq = s.psq ∧ s.quietStep.sgm = s.sgm ∧ s.quietStep.fresh = s.fresh ∧
    s.quietStep.pending = s.pending ∧ s.quietStep.now = s.now ∧ s.quietStep.instant = s.instant ∧
    s.quietStep.cfg = s.cfg ∧ s.quietStep.isReady = s.isReady ∧ s.quietStep.sectionIndex = s.sectionIndex ∧
    s.quietStep.sectionKnown = s.sectionKnown := by
  and_intros <;> (simp only [State.quietStep]; (repeat' split) <;> simp [State.now, State.instant, State.cfg, State.isReady, State.sectionIndex, State.sectionKnown])

/-- What an own-channel delivery leaves as it was. -/
@[simp] theorem State.ownDelivery_frame (s : State) (n : Notice) :
    (s.ownDelivery n).held = s.held ∧ (s.ownDelivery n).startAt = s.startAt ∧
    (s.ownDelivery n).tmb = s.tmb ∧ (s.ownDelivery n).cfl = s.cfl ∧ (s.ownDelivery n).crx = s.crx ∧
    (s.ownDelivery n).ptb = s.ptb ∧ (s.ownDelivery n).sre = s.sre ∧ (s.ownDelivery n).msu = s.msu ∧
    (s.ownDelivery n).drp = s.drp ∧ (s.ownDelivery n).lrg = s.lrg ∧ (s.ownDelivery n).bch = s.bch ∧
    (s.ownDelivery n).psq = s.psq ∧ (s.ownDelivery n).sgm = s.sgm ∧ (s.ownDelivery n).fresh = s.fresh ∧
    (s.ownDelivery n).pending = s.pending ∧ (s.ownDelivery n).now = s.now ∧
    (s.ownDelivery n).instant = s.instant ∧ (s.ownDelivery n).cfg = s.cfg ∧
    (s.ownDelivery n).isReady = s.isReady ∧ (s.ownDelivery n).sectionIndex = s.sectionIndex ∧
    (s.ownDelivery n).sectionKnown = s.sectionKnown := by
  and_intros <;> (simp only [State.ownDelivery]; (repeat' split) <;> simp [State.now, State.instant, State.cfg, State.isReady, State.sectionIndex, State.sectionKnown])

/-- What a peer delivery leaves as it was. -/
@[simp] theorem State.peerDelivery_frame (s : State) (ch : Channel) (n : Notice) :
    (s.peerDelivery ch n).held = s.held ∧ (s.peerDelivery ch n).startAt = s.startAt ∧
    (s.peerDelivery ch n).tmb = s.tmb ∧ (s.peerDelivery ch n).cfl = s.cfl ∧
    (s.peerDelivery ch n).crx = s.crx ∧ (s.peerDelivery ch n).ntx = s.ntx ∧
    (s.peerDelivery ch n).sre = s.sre ∧ (s.peerDelivery ch n).cfm = s.cfm ∧
    (s.peerDelivery ch n).msu = s.msu ∧ (s.peerDelivery ch n).drp = s.drp ∧
    (s.peerDelivery ch n).lrg = s.lrg ∧ (s.peerDelivery ch n).bch = s.bch ∧
    (s.peerDelivery ch n).psq = s.psq ∧ (s.peerDelivery ch n).sgm = s.sgm ∧
    (s.peerDelivery ch n).fresh = s.fresh ∧ (s.peerDelivery ch n).pending = s.pending ∧
    (s.peerDelivery ch n).now = s.now ∧ (s.peerDelivery ch n).instant = s.instant ∧
    (s.peerDelivery ch n).cfg = s.cfg ∧ (s.peerDelivery ch n).isReady = s.isReady ∧
    (s.peerDelivery ch n).sectionIndex = s.sectionIndex ∧
    (s.peerDelivery ch n).sectionKnown = s.sectionKnown := by
  and_intros <;> (simp only [State.peerDelivery]; (repeat' split) <;> simp [State.now, State.instant, State.cfg, State.isReady, State.sectionIndex, State.sectionKnown])

/-- What a channel error leaves as it was. -/
@[simp] theorem State.countError_frame (s : State) (ch : Channel) :
    (s.countError ch).held = s.held ∧ (s.countError ch).startAt = s.startAt ∧
    (s.countError ch).tmb = s.tmb ∧ (s.countError ch).cfl = s.cfl ∧ (s.countError ch).crx = s.crx ∧
    (s.countError ch).ntx = s.ntx ∧ (s.countError ch).sre = s.sre ∧ (s.countError ch).cfm = s.cfm ∧
    (s.countError ch).msu = s.msu ∧ (s.countError ch).drp = s.drp ∧ (s.countError ch).lrg = s.lrg ∧
    (s.countError ch).bch = s.bch ∧ (s.countError ch).psq = s.psq ∧ (s.countError ch).sgm = s.sgm ∧
    (s.countError ch).dlk = s.dlk ∧ (s.countError ch).fresh = s.fresh ∧
    (s.countError ch).pending = s.pending ∧ (s.countError ch).now = s.now ∧
    (s.countError ch).instant = s.instant ∧ (s.countError ch).cfg = s.cfg ∧
    (s.countError ch).isReady = s.isReady ∧ (s.countError ch).sectionIndex = s.sectionIndex ∧
    (s.countError ch).sectionKnown = s.sectionKnown := by
  and_intros <;> rfl

/-- What a foreign notice leaves as it was. -/
@[simp] theorem State.countForeign_frame (s : State) :
    s.countForeign.held = s.held ∧ s.countForeign.startAt = s.startAt ∧ s.countForeign.tmb = s.tmb ∧
    s.countForeign.cfl = s.cfl ∧ s.countForeign.crx = s.crx ∧ s.countForeign.ntx = s.ntx ∧
    s.countForeign.sre = s.sre ∧ s.countForeign.cfm = s.cfm ∧ s.countForeign.msu = s.msu ∧
    s.countForeign.drp = s.drp ∧ s.countForeign.lrg = s.lrg ∧ s.countForeign.bch = s.bch ∧
    s.countForeign.psq = s.psq ∧ s.countForeign.sgm = s.sgm ∧ s.countForeign.dlk = s.dlk ∧
    s.countForeign.fresh = s.fresh ∧ s.countForeign.pending = s.pending ∧ s.countForeign.now = s.now ∧
    s.countForeign.instant = s.instant ∧ s.countForeign.cfg = s.cfg ∧ s.countForeign.isReady = s.isReady ∧
    s.countForeign.sectionIndex = s.sectionIndex ∧ s.countForeign.sectionKnown = s.sectionKnown := by
  and_intros <;> rfl

/-- What a flush leaves as it was. -/
@[simp] theorem State.flushPeers_frame (s : State) :
    s.flushPeers.held = s.held ∧ s.flushPeers.startAt = s.startAt ∧ s.flushPeers.tmb = s.tmb ∧
    s.flushPeers.cfl = s.cfl ∧ s.flushPeers.crx = s.crx ∧ s.flushPeers.ntx = s.ntx ∧
    s.flushPeers.sre = s.sre ∧ s.flushPeers.cfm = s.cfm ∧ s.flushPeers.msu = s.msu ∧
    s.flushPeers.drp = s.drp ∧ s.flushPeers.lrg = s.lrg ∧ s.flushPeers.bch = s.bch ∧
    s.flushPeers.psq = s.psq ∧ s.flushPeers.sgm = s.sgm ∧ s.flushPeers.dlk = s.dlk ∧
    s.flushPeers.fresh = s.fresh ∧ s.flushPeers.pending = s.pending ∧ s.flushPeers.now = s.now ∧
    s.flushPeers.instant = s.instant ∧ s.flushPeers.cfg = s.cfg ∧ s.flushPeers.isReady = s.isReady ∧
    s.flushPeers.sectionIndex = s.sectionIndex ∧ s.flushPeers.sectionKnown = s.sectionKnown := by
  and_intros <;> rfl

/-- What the start of a gap cut leaves as it was. -/
@[simp] theorem State.startGapCut_frame (s : State) :
    s.startGapCut.held = s.held ∧ s.startGapCut.startAt = s.startAt ∧ s.startGapCut.tmb = s.tmb ∧
    s.startGapCut.cfl = s.cfl ∧ s.startGapCut.crx = s.crx ∧ s.startGapCut.ntx = s.ntx ∧
    s.startGapCut.ptb = s.ptb ∧ s.startGapCut.sre = s.sre ∧ s.startGapCut.cfm = s.cfm ∧
    s.startGapCut.msu = s.msu ∧ s.startGapCut.lrg = s.lrg ∧ s.startGapCut.psq = s.psq ∧
    s.startGapCut.dlk = s.dlk ∧ s.startGapCut.fresh = s.fresh ∧ s.startGapCut.pending = s.pending ∧
    s.startGapCut.now = s.now ∧ s.startGapCut.instant = s.instant ∧ s.startGapCut.cfg = s.cfg ∧
    s.startGapCut.isReady = s.isReady := by
  and_intros <;> (simp only [State.startGapCut]; simp [State.now, State.instant, State.cfg, State.isReady])

/-- What the end of a gap cut leaves as it was. -/
@[simp] theorem State.endGapCut_frame (s : State) :
    s.endGapCut.held = s.held ∧ s.endGapCut.startAt = s.startAt ∧ s.endGapCut.tmb = s.tmb ∧
    s.endGapCut.cfl = s.cfl ∧ s.endGapCut.crx = s.crx ∧ s.endGapCut.ntx = s.ntx ∧ s.endGapCut.ptb = s.ptb ∧
    s.endGapCut.sre = s.sre ∧ s.endGapCut.cfm = s.cfm ∧ s.endGapCut.msu = s.msu ∧ s.endGapCut.lrg = s.lrg ∧
    s.endGapCut.psq = s.psq ∧ s.endGapCut.dlk = s.dlk ∧ s.endGapCut.fresh = s.fresh ∧
    s.endGapCut.pending = s.pending ∧ s.endGapCut.now = s.now ∧ s.endGapCut.instant = s.instant ∧
    s.endGapCut.cfg = s.cfg ∧ s.endGapCut.isReady = s.isReady := by
  and_intros <;> (simp only [State.endGapCut]; (repeat' split) <;> simp [State.now, State.instant, State.cfg, State.isReady])

/-- What a disarming leaves as it was. -/
@[simp] theorem State.disarmGap_frame (s : State) :
    s.disarmGap.held = s.held ∧ s.disarmGap.startAt = s.startAt ∧ s.disarmGap.tmb = s.tmb ∧
    s.disarmGap.cfl = s.cfl ∧ s.disarmGap.crx = s.crx ∧ s.disarmGap.ntx = s.ntx ∧ s.disarmGap.ptb = s.ptb ∧
    s.disarmGap.sre = s.sre ∧ s.disarmGap.cfm = s.cfm ∧ s.disarmGap.msu = s.msu ∧ s.disarmGap.lrg = s.lrg ∧
    s.disarmGap.psq = s.psq ∧ s.disarmGap.dlk = s.dlk ∧ s.disarmGap.fresh = s.fresh ∧
    s.disarmGap.pending = s.pending ∧ s.disarmGap.now = s.now ∧ s.disarmGap.instant = s.instant ∧
    s.disarmGap.cfg = s.cfg ∧ s.disarmGap.isReady = s.isReady := by
  and_intros <;> (simp only [State.disarmGap]; simp [State.now, State.instant, State.cfg, State.isReady])

/-- What a state entry of PSQ leaves as it was. -/
@[simp] theorem State.enterPsq_frame (s : State) (st : PsqState) :
    (s.enterPsq st).held = s.held ∧ (s.enterPsq st).startAt = s.startAt ∧ (s.enterPsq st).tmb = s.tmb ∧
    (s.enterPsq st).cfl = s.cfl ∧ (s.enterPsq st).crx = s.crx ∧ (s.enterPsq st).ntx = s.ntx ∧
    (s.enterPsq st).ptb = s.ptb ∧ (s.enterPsq st).sre = s.sre ∧ (s.enterPsq st).cfm = s.cfm ∧
    (s.enterPsq st).msu = s.msu ∧ (s.enterPsq st).sgm = s.sgm ∧ (s.enterPsq st).fresh = s.fresh ∧
    (s.enterPsq st).pending = s.pending ∧ (s.enterPsq st).now = s.now ∧
    (s.enterPsq st).instant = s.instant ∧ (s.enterPsq st).cfg = s.cfg ∧
    (s.enterPsq st).isReady = s.isReady ∧ (s.enterPsq st).sectionIndex = s.sectionIndex ∧
    (s.enterPsq st).sectionKnown = s.sectionKnown := by
  and_intros <;> (simp only [State.enterPsq]; (repeat' split) <;> simp [State.now, State.instant, State.cfg, State.isReady, State.sectionIndex, State.sectionKnown])

/-- What an entry to CUTTING leaves as it was. -/
@[simp] theorem State.enterCutting_frame (s : State) :
    s.enterCutting.held = s.held ∧ s.enterCutting.startAt = s.startAt ∧ s.enterCutting.tmb = s.tmb ∧
    s.enterCutting.cfl = s.cfl ∧ s.enterCutting.crx = s.crx ∧ s.enterCutting.ntx = s.ntx ∧
    s.enterCutting.ptb = s.ptb ∧ s.enterCutting.sre = s.sre ∧ s.enterCutting.cfm = s.cfm ∧
    s.enterCutting.msu = s.msu ∧ s.enterCutting.sgm = s.sgm ∧ s.enterCutting.fresh = s.fresh ∧
    s.enterCutting.pending = s.pending ∧ s.enterCutting.now = s.now ∧ s.enterCutting.instant = s.instant ∧
    s.enterCutting.cfg = s.cfg ∧ s.enterCutting.isReady = s.isReady ∧
    s.enterCutting.sectionIndex = s.sectionIndex ∧ s.enterCutting.sectionKnown = s.sectionKnown := by
  and_intros <;> (simp only [State.enterCutting]; (repeat' split) <;> simp [State.now, State.instant, State.cfg, State.isReady, State.sectionIndex, State.sectionKnown])

/-- What an entry to RETRACTING leaves as it was. -/
@[simp] theorem State.enterRetracting_frame (s : State) :
    s.enterRetracting.held = s.held ∧ s.enterRetracting.startAt = s.startAt ∧
    s.enterRetracting.tmb = s.tmb ∧ s.enterRetracting.cfl = s.cfl ∧ s.enterRetracting.crx = s.crx ∧
    s.enterRetracting.ntx = s.ntx ∧ s.enterRetracting.ptb = s.ptb ∧ s.enterRetracting.sre = s.sre ∧
    s.enterRetracting.cfm = s.cfm ∧ s.enterRetracting.msu = s.msu ∧ s.enterRetracting.sgm = s.sgm ∧
    s.enterRetracting.fresh = s.fresh ∧ s.enterRetracting.pending = s.pending ∧
    s.enterRetracting.now = s.now ∧ s.enterRetracting.instant = s.instant ∧ s.enterRetracting.cfg = s.cfg ∧
    s.enterRetracting.isReady = s.isReady ∧ s.enterRetracting.sectionIndex = s.sectionIndex ∧
    s.enterRetracting.sectionKnown = s.sectionKnown := by
  and_intros <;> (simp only [State.enterRetracting]; (repeat' split) <;> simp [State.now, State.instant, State.cfg, State.isReady, State.sectionIndex, State.sectionKnown])

/-- What PSQ at a contact loss leaves as it was. -/
@[simp] theorem State.psqContactLost_frame (s : State) :
    s.psqContactLost.held = s.held ∧ s.psqContactLost.startAt = s.startAt ∧ s.psqContactLost.tmb = s.tmb ∧
    s.psqContactLost.cfl = s.cfl ∧ s.psqContactLost.crx = s.crx ∧ s.psqContactLost.ntx = s.ntx ∧
    s.psqContactLost.ptb = s.ptb ∧ s.psqContactLost.sre = s.sre ∧ s.psqContactLost.cfm = s.cfm ∧
    s.psqContactLost.msu = s.msu ∧ s.psqContactLost.sgm = s.sgm ∧ s.psqContactLost.fresh = s.fresh ∧
    s.psqContactLost.pending = s.pending ∧ s.psqContactLost.now = s.now ∧
    s.psqContactLost.instant = s.instant ∧ s.psqContactLost.cfg = s.cfg ∧
    s.psqContactLost.isReady = s.isReady ∧ s.psqContactLost.sectionIndex = s.sectionIndex ∧
    s.psqContactLost.sectionKnown = s.sectionKnown := by
  and_intros <;> (simp only [State.psqContactLost]; (repeat' split) <;> simp [State.now, State.instant, State.cfg, State.isReady, State.sectionIndex, State.sectionKnown])

/-- What a contact loss leaves as it was. -/
@[simp] theorem State.contactLost_frame (s : State) :
    s.contactLost.held = s.held ∧ s.contactLost.startAt = s.startAt ∧ s.contactLost.tmb = s.tmb ∧
    s.contactLost.cfl = s.cfl ∧ s.contactLost.crx = s.crx ∧ s.contactLost.ptb = s.ptb ∧
    s.contactLost.sre = s.sre ∧ s.contactLost.msu = s.msu ∧ s.contactLost.fresh = s.fresh ∧
    s.contactLost.pending = s.pending ∧ s.contactLost.now = s.now ∧ s.contactLost.instant = s.instant ∧
    s.contactLost.cfg = s.cfg ∧ s.contactLost.isReady = s.isReady := by
  and_intros <;> (simp only [State.contactLost]; simp [State.now, State.instant, State.cfg, State.isReady])

/-- What PSQ at a contact return leaves as it was. -/
@[simp] theorem State.psqContactReturned_frame (s : State) :
    s.psqContactReturned.held = s.held ∧ s.psqContactReturned.startAt = s.startAt ∧
    s.psqContactReturned.tmb = s.tmb ∧ s.psqContactReturned.cfl = s.cfl ∧ s.psqContactReturned.crx = s.crx ∧
    s.psqContactReturned.ntx = s.ntx ∧ s.psqContactReturned.ptb = s.ptb ∧ s.psqContactReturned.sre = s.sre ∧
    s.psqContactReturned.cfm = s.cfm ∧ s.psqContactReturned.msu = s.msu ∧ s.psqContactReturned.sgm = s.sgm ∧
    s.psqContactReturned.fresh = s.fresh ∧ s.psqContactReturned.pending = s.pending ∧
    s.psqContactReturned.now = s.now ∧ s.psqContactReturned.instant = s.instant ∧
    s.psqContactReturned.cfg = s.cfg ∧ s.psqContactReturned.isReady = s.isReady ∧
    s.psqContactReturned.sectionIndex = s.sectionIndex ∧
    s.psqContactReturned.sectionKnown = s.sectionKnown := by
  and_intros <;> (simp only [State.psqContactReturned]; (repeat' split) <;> simp [State.now, State.instant, State.cfg, State.isReady, State.sectionIndex, State.sectionKnown])

/-- What a contact return leaves as it was. -/
@[simp] theorem State.contactReturned_frame (s : State) :
    s.contactReturned.held = s.held ∧ s.contactReturned.startAt = s.startAt ∧
    s.contactReturned.tmb = s.tmb ∧ s.contactReturned.cfl = s.cfl ∧ s.contactReturned.crx = s.crx ∧
    s.contactReturned.ntx = s.ntx ∧ s.contactReturned.ptb = s.ptb ∧ s.contactReturned.sre = s.sre ∧
    s.contactReturned.cfm = s.cfm ∧ s.contactReturned.msu = s.msu ∧ s.contactReturned.fresh = s.fresh ∧
    s.contactReturned.pending = s.pending ∧ s.contactReturned.now = s.now ∧
    s.contactReturned.instant = s.instant ∧ s.contactReturned.cfg = s.cfg ∧
    s.contactReturned.isReady = s.isReady := by
  and_intros <;> (simp only [State.contactReturned]; (repeat' split) <;> simp [State.now, State.instant, State.cfg, State.isReady])

/-- What the down-limit leaves as it was. -/
@[simp] theorem State.downLimitReached_frame (s : State) :
    s.downLimitReached.held = s.held ∧ s.downLimitReached.startAt = s.startAt ∧
    s.downLimitReached.tmb = s.tmb ∧ s.downLimitReached.cfl = s.cfl ∧ s.downLimitReached.crx = s.crx ∧
    s.downLimitReached.ntx = s.ntx ∧ s.downLimitReached.ptb = s.ptb ∧ s.downLimitReached.sre = s.sre ∧
    s.downLimitReached.cfm = s.cfm ∧ s.downLimitReached.msu = s.msu ∧ s.downLimitReached.sgm = s.sgm ∧
    s.downLimitReached.fresh = s.fresh ∧ s.downLimitReached.pending = s.pending ∧
    s.downLimitReached.now = s.now ∧ s.downLimitReached.instant = s.instant ∧
    s.downLimitReached.cfg = s.cfg ∧ s.downLimitReached.isReady = s.isReady ∧
    s.downLimitReached.sectionIndex = s.sectionIndex ∧
    s.downLimitReached.sectionKnown = s.sectionKnown := by
  and_intros <;> (simp only [State.downLimitReached]; (repeat' split) <;> simp [State.now, State.instant, State.cfg, State.isReady, State.sectionIndex, State.sectionKnown])

/-- What a contact-filter edge leaves as it was. -/
@[simp] theorem State.contactEdge_frame (s : State) (b : Bool) :
    (s.contactEdge b).held = s.held ∧ (s.contactEdge b).startAt = s.startAt ∧
    (s.contactEdge b).tmb = s.tmb ∧ (s.contactEdge b).cfl = s.cfl ∧ (s.contactEdge b).crx = s.crx ∧
    (s.contactEdge b).ptb = s.ptb ∧ (s.contactEdge b).sre = s.sre ∧ (s.contactEdge b).msu = s.msu ∧
    (s.contactEdge b).fresh = s.fresh ∧ (s.contactEdge b).pending = s.pending ∧
    (s.contactEdge b).now = s.now ∧ (s.contactEdge b).instant = s.instant ∧ (s.contactEdge b).cfg = s.cfg ∧
    (s.contactEdge b).isReady = s.isReady := by
  and_intros <;> (simp only [State.contactEdge]; (repeat' split) <;> simp [State.now, State.instant, State.cfg, State.isReady])

/-- What an up-limit-filter edge leaves as it was. -/
@[simp] theorem State.upLimitEdge_frame (s : State) (b : Bool) :
    (s.upLimitEdge b).held = s.held ∧ (s.upLimitEdge b).startAt = s.startAt ∧
    (s.upLimitEdge b).tmb = s.tmb ∧ (s.upLimitEdge b).cfl = s.cfl ∧ (s.upLimitEdge b).crx = s.crx ∧
    (s.upLimitEdge b).ntx = s.ntx ∧ (s.upLimitEdge b).ptb = s.ptb ∧ (s.upLimitEdge b).sre = s.sre ∧
    (s.upLimitEdge b).cfm = s.cfm ∧ (s.upLimitEdge b).msu = s.msu ∧ (s.upLimitEdge b).drp = s.drp ∧
    (s.upLimitEdge b).lrg = s.lrg ∧ (s.upLimitEdge b).bch = s.bch ∧ (s.upLimitEdge b).sgm = s.sgm ∧
    (s.upLimitEdge b).dlk = s.dlk ∧ (s.upLimitEdge b).fresh = s.fresh ∧
    (s.upLimitEdge b).pending = s.pending ∧ (s.upLimitEdge b).now = s.now ∧
    (s.upLimitEdge b).instant = s.instant ∧ (s.upLimitEdge b).cfg = s.cfg ∧
    (s.upLimitEdge b).isReady = s.isReady ∧ (s.upLimitEdge b).sectionIndex = s.sectionIndex ∧
    (s.upLimitEdge b).sectionKnown = s.sectionKnown := by
  and_intros <;> rfl

/-- What a down-limit-filter edge leaves as it was. -/
@[simp] theorem State.downLimitEdge_frame (s : State) (b : Bool) :
    (s.downLimitEdge b).held = s.held ∧ (s.downLimitEdge b).startAt = s.startAt ∧
    (s.downLimitEdge b).tmb = s.tmb ∧ (s.downLimitEdge b).cfl = s.cfl ∧ (s.downLimitEdge b).crx = s.crx ∧
    (s.downLimitEdge b).ntx = s.ntx ∧ (s.downLimitEdge b).ptb = s.ptb ∧ (s.downLimitEdge b).sre = s.sre ∧
    (s.downLimitEdge b).cfm = s.cfm ∧ (s.downLimitEdge b).msu = s.msu ∧ (s.downLimitEdge b).sgm = s.sgm ∧
    (s.downLimitEdge b).fresh = s.fresh ∧ (s.downLimitEdge b).pending = s.pending ∧
    (s.downLimitEdge b).now = s.now ∧ (s.downLimitEdge b).instant = s.instant ∧
    (s.downLimitEdge b).cfg = s.cfg ∧ (s.downLimitEdge b).isReady = s.isReady ∧
    (s.downLimitEdge b).sectionIndex = s.sectionIndex ∧
    (s.downLimitEdge b).sectionKnown = s.sectionKnown := by
  and_intros <;> (simp only [State.downLimitEdge]; (repeat' split) <;> simp [State.now, State.instant, State.cfg, State.isReady, State.sectionIndex, State.sectionKnown])

/-- What an arc comparison leaves as it was. -/
@[simp] theorem State.compareArc_frame (s : State) :
    s.compareArc.held = s.held ∧ s.compareArc.startAt = s.startAt ∧ s.compareArc.tmb = s.tmb ∧
    s.compareArc.cfl = s.cfl ∧ s.compareArc.crx = s.crx ∧ s.compareArc.ntx = s.ntx ∧
    s.compareArc.ptb = s.ptb ∧ s.compareArc.sre = s.sre ∧ s.compareArc.cfm = s.cfm ∧
    s.compareArc.msu = s.msu ∧ s.compareArc.sgm = s.sgm ∧ s.compareArc.fresh = s.fresh ∧
    s.compareArc.pending = s.pending ∧ s.compareArc.now = s.now ∧ s.compareArc.instant = s.instant ∧
    s.compareArc.cfg = s.cfg ∧ s.compareArc.isReady = s.isReady ∧
    s.compareArc.sectionIndex = s.sectionIndex ∧ s.compareArc.sectionKnown = s.sectionKnown := by
  and_intros <;> (simp only [State.compareArc]; (repeat' split) <;> simp [State.now, State.instant, State.cfg, State.isReady, State.sectionIndex, State.sectionKnown])

end Sys2Proof.Machine
end

