-- ==== Sys2Proof/Laws/Event.lean ====
section
/-! SUPPORT. What a command's meaning can answer: the shape `event` that the meanings share, the transmitter's choice
that ends it, and how a condition comes to be kept by every step. -/

namespace Sys2Proof.Machine

/-- An event that occurs outside a reset takes its effect, and the transmitter then chooses. -/
theorem State.event_of_occurs {s : State} {occurs : Bool} {effect : State → State} (hh : s.held = false)
    (ho : occurs = true) : s.event occurs effect = .next (effect s).settle := by
  simp [State.event, hh, ho]

/-- An event that cannot occur changes nothing. -/
theorem State.event_of_not {s : State} {occurs : Bool} {effect : State → State} (ho : occurs = false) :
    s.event occurs effect = .next s := by
  simp [State.event, ho]

/-- While a reset is held, an event changes nothing. -/
theorem State.event_of_held {s : State} {occurs : Bool} {effect : State → State} (hh : s.held = true) :
    s.event occurs effect = .next s := by
  simp [State.event, hh]

/-- Everything that an event can answer. -/
theorem State.event_cases {s t : State} {occurs : Bool} {effect : State → State}
    (h : s.event occurs effect = .next t) :
    t = s ∨ (occurs = true ∧ s.held = false ∧ t = (effect s).settle) := by
  unfold State.event at h
  split at h
  · next hc =>
    simp only [Bool.and_eq_true, Bool.not_eq_true'] at hc
    exact .inr ⟨hc.1, hc.2, by cases h; rfl⟩
  · exact .inl (by cases h; rfl)

/-- An event keeps a condition that its effect and the transmitter's choice keep. -/
theorem State.event_keeps {P : State → Prop} {s t : State} {occurs : Bool} {effect : State → State}
    (settles : ∀ u, P u → P u.settle) (hs : P s) (heff : occurs = true → s.held = false → P (effect s))
    (h : s.event occurs effect = .next t) : P t := by
  rcases State.event_cases h with rfl | ⟨ho, hh, rfl⟩
  · exact hs
  · exact settles _ (heff ho hh)

/-- A step is the front command's meaning, or an idle moment. -/
theorem step_cases {s t : State} (h : step s = .next t) :
    (s.pending = [] ∧ t = s.idle) ∨
      ∃ c rest, s.pending = c :: rest ∧ exec c { s with pending := rest } = .next t := by
  unfold step at h
  split at h
  · next he => exact .inl ⟨he, by cases h; rfl⟩
  · next c rest he => exact .inr ⟨c, rest, he, h⟩

/-- A condition is kept by every step where idle moments, the queue and every meaning keep it. -/
theorem kept_of_exec {P : State → Prop} (idle : ∀ s, P s → P s.idle)
    (queue : ∀ s q, P s → P { s with pending := q })
    (execs : ∀ (c : Instr) (s t : State), P s → exec c s = .next t → P t) : KeptByEveryStep P := by
  intro s t hs h
  rcases step_cases h with ⟨-, rfl⟩ | ⟨c, rest, -, hx⟩
  · exact idle s hs
  · exact execs c _ t (queue s rest hs) hx

/-- Every meaning answers a next state: the part never stops. -/
theorem exec_next (c : Instr) (s : State) : ∃ t, exec c s = .next t := by
  have ev : ∀ (o : Bool) (e : State → State), ∃ t, s.event o e = .next t := by
    intro o e
    unfold State.event
    split <;> exact ⟨_, rfl⟩
  cases c <;> simp only [
    exec, execPowerOn, execPinReset, execSpiReadCompletion, execLoaderRetryExpiry, execReady,
      execRestartTimerStart, execNoticeTimerExpiry, execNoticeCompletion, execSyncEntry, execFrameAbandon,
      execNoticeReceived, execSweep, execRoundCompletion, execConversionPairStart,
      execVoltageConversionCompletion, execCurrentConversionCompletion, execChopperPeriodStart,
      execGroupStart, execRampStep, execContactLoss, execContactReturn, execDownLimit, execRaiseTimeout,
      execPrechargeExpiry, execReacquireExpiry, execCoastExpiry, execDischargeExpiry, execRetractTimeout,
      execRingAdvance, execPilotWindowEnd, execRejoinExpiry, execCountdownRunOut, execGraceExpiry,
      execDemand, execPantoRaise, execPantoLower, execGap, execQuery, execRestart, execFrameDropped,
      execSilenceTimerExpiry, execStowTimerExpiry, execLimitTimerExpiry, execTransmitterFree,
      execSymbolStrobe, execSymbolBoundary, execSymbolDecision, execFilterEdge, execContactStrobe,
      execChopperCount, execPwmCount, execByteReceived, execResetEnd, execPantoBadValue, State.frameEnd]
  case powerOn | pinReset => exact ⟨_, rfl⟩
  case resetEnd => split <;> exact ⟨_, rfl⟩
  all_goals exact ev _ _

/-- What the transmitter's choice leaves of DLK: all but what it sends and what a STATUS reports and clears (R161). -/
@[simp] theorem State.settle_dlk (s : State) :
    s.settle.dlk.rx = s.dlk.rx ∧ s.settle.dlk.own = s.dlk.own ∧ s.settle.dlk.silence = s.dlk.silence ∧
    s.settle.dlk.stow = s.dlk.stow ∧ s.settle.dlk.silenceTimer = s.dlk.silenceTimer ∧
    s.settle.dlk.stowTimer = s.dlk.stowTimer ∧ s.settle.dlk.resetCause = s.dlk.resetCause ∧
    s.settle.dlk.limitTimer = s.dlk.limitTimer := by
  and_intros <;> (simp only [State.settle]; (repeat' split) <;> rfl)

/-- The transmitter's choice leaves the table and the sweep timer. -/
@[simp] theorem State.settle_ptb (s : State) :
    s.settle.ptb.slots = s.ptb.slots ∧ s.settle.ptb.sweepTimer = s.ptb.sweepTimer := by
  and_intros <;> (simp only [State.settle]; (repeat' split) <;> rfl)

/-- Everything that the transmitter's choice can do (R161). -/
theorem State.settle_cases (s : State) :
    (s.dlk.sending.isSome = true ∧ s.settle = s) ∨
    (s.dlk.sending = none ∧ ∃ f, s.dlk.limitBuffer = some f ∧
      s.settle = { s with dlk := { s.dlk with limitBuffer := none } }.startSending (.limit f)) ∨
    (s.dlk.sending = none ∧ s.dlk.limitBuffer = none ∧ ∃ ty r rest, s.dlk.refusals = (ty, r) :: rest ∧
      s.settle = { s with dlk := { s.dlk with refusals := rest } }.startSending (.refuse ty r)) ∨
    (s.dlk.sending = none ∧ s.dlk.limitBuffer = none ∧ s.dlk.refusals = [] ∧ s.dlk.statusPending = true ∧
      s.settle = s.composedStatus.startSending (.status s.statusFrame)) ∨
    (s.dlk.sending = none ∧ s.dlk.limitBuffer = none ∧ s.dlk.refusals = [] ∧ s.dlk.statusPending = false ∧
      s.settle = s) := by
  unfold State.settle
  split
  · next h => exact .inl ⟨h, rfl⟩
  · next h =>
    have h0 : s.dlk.sending = none := by simpa using h
    split
    · next f hf => exact .inr (.inl ⟨h0, f, hf, rfl⟩)
    · next hf =>
      split
      · next ty r rest hr => exact .inr (.inr (.inl ⟨h0, hf, ty, r, rest, hr, rfl⟩))
      · next hr =>
        split
        · next hp => exact .inr (.inr (.inr (.inl ⟨h0, hf, hr, hp, rfl⟩)))
        · next hp => exact .inr (.inr (.inr (.inr ⟨h0, hf, hr, by simpa using hp, rfl⟩)))

end Sys2Proof.Machine
end

