-- ==== Sys2Proof/Laws/FamilyFrames.lean ====
section
/-! SUPPORT. Frames: what each family's operations leave unchanged. -/

namespace Sys2Proof.Machine

/-- What a new context leaves as it was. -/
@[simp] theorem State.withContext_frame (s : State) (ch : Channel) (c : RxContext) :
    (s.withContext ch c).held = s.held ∧ (s.withContext ch c).startAt = s.startAt ∧
    (s.withContext ch c).tmb = s.tmb ∧ (s.withContext ch c).cfl = s.cfl ∧ (s.withContext ch c).ntx = s.ntx ∧
    (s.withContext ch c).ptb = s.ptb ∧ (s.withContext ch c).sre = s.sre ∧ (s.withContext ch c).cfm = s.cfm ∧
    (s.withContext ch c).msu = s.msu ∧ (s.withContext ch c).drp = s.drp ∧ (s.withContext ch c).lrg = s.lrg ∧
    (s.withContext ch c).bch = s.bch ∧ (s.withContext ch c).psq = s.psq ∧ (s.withContext ch c).sgm = s.sgm ∧
    (s.withContext ch c).dlk = s.dlk ∧ (s.withContext ch c).fresh = s.fresh ∧
    (s.withContext ch c).pending = s.pending ∧ (s.withContext ch c).now = s.now ∧
    (s.withContext ch c).instant = s.instant ∧ (s.withContext ch c).cfg = s.cfg ∧
    (s.withContext ch c).isReady = s.isReady ∧ (s.withContext ch c).sectionIndex = s.sectionIndex ∧
    (s.withContext ch c).sectionKnown = s.sectionKnown := by
  and_intros <;> rfl

/-- What an entry to SYNC leaves as it was. -/
@[simp] theorem State.syncEntered_frame (s : State) (ch : Channel) :
    (s.syncEntered ch).held = s.held ∧ (s.syncEntered ch).startAt = s.startAt ∧
    (s.syncEntered ch).tmb = s.tmb ∧ (s.syncEntered ch).cfl = s.cfl ∧ (s.syncEntered ch).crx = s.crx ∧
    (s.syncEntered ch).ptb = s.ptb ∧ (s.syncEntered ch).sre = s.sre ∧ (s.syncEntered ch).cfm = s.cfm ∧
    (s.syncEntered ch).msu = s.msu ∧ (s.syncEntered ch).drp = s.drp ∧ (s.syncEntered ch).lrg = s.lrg ∧
    (s.syncEntered ch).bch = s.bch ∧ (s.syncEntered ch).psq = s.psq ∧ (s.syncEntered ch).sgm = s.sgm ∧
    (s.syncEntered ch).dlk = s.dlk ∧ (s.syncEntered ch).fresh = s.fresh ∧
    (s.syncEntered ch).pending = s.pending ∧ (s.syncEntered ch).now = s.now ∧
    (s.syncEntered ch).instant = s.instant ∧ (s.syncEntered ch).cfg = s.cfg ∧
    (s.syncEntered ch).isReady = s.isReady ∧ (s.syncEntered ch).sectionIndex = s.sectionIndex ∧
    (s.syncEntered ch).sectionKnown = s.sectionKnown := by
  and_intros <;> (simp only [State.syncEntered]; (repeat' split) <;> simp [State.now, State.instant, State.cfg, State.isReady, State.sectionIndex, State.sectionKnown])

/-- What the check of a frame leaves as it was. -/
@[simp] theorem State.checkRecord_frame (s : State) (ch : Channel) (bits : List Bool) :
    (s.checkRecord ch bits).held = s.held ∧ (s.checkRecord ch bits).startAt = s.startAt ∧
    (s.checkRecord ch bits).tmb = s.tmb ∧ (s.checkRecord ch bits).cfl = s.cfl ∧
    (s.checkRecord ch bits).crx = s.crx ∧ (s.checkRecord ch bits).sre = s.sre ∧
    (s.checkRecord ch bits).msu = s.msu ∧ (s.checkRecord ch bits).drp = s.drp ∧
    (s.checkRecord ch bits).lrg = s.lrg ∧ (s.checkRecord ch bits).bch = s.bch ∧
    (s.checkRecord ch bits).psq = s.psq ∧ (s.checkRecord ch bits).sgm = s.sgm ∧
    (s.checkRecord ch bits).fresh = s.fresh ∧ (s.checkRecord ch bits).pending = s.pending ∧
    (s.checkRecord ch bits).now = s.now ∧ (s.checkRecord ch bits).instant = s.instant ∧
    (s.checkRecord ch bits).cfg = s.cfg ∧ (s.checkRecord ch bits).isReady = s.isReady ∧
    (s.checkRecord ch bits).sectionIndex = s.sectionIndex ∧
    (s.checkRecord ch bits).sectionKnown = s.sectionKnown := by
  and_intros <;> (simp only [State.checkRecord]; (repeat' split) <;> simp [State.now, State.instant, State.cfg, State.isReady, State.sectionIndex, State.sectionKnown])

/-- What a symbol decision leaves as it was. -/
@[simp] theorem State.decideSymbol_frame (s : State) (ch : Channel) (d : Symbol) :
    (s.decideSymbol ch d).held = s.held ∧ (s.decideSymbol ch d).startAt = s.startAt ∧
    (s.decideSymbol ch d).tmb = s.tmb ∧ (s.decideSymbol ch d).cfl = s.cfl ∧
    (s.decideSymbol ch d).sre = s.sre ∧ (s.decideSymbol ch d).msu = s.msu ∧
    (s.decideSymbol ch d).drp = s.drp ∧ (s.decideSymbol ch d).lrg = s.lrg ∧
    (s.decideSymbol ch d).bch = s.bch ∧ (s.decideSymbol ch d).psq = s.psq ∧
    (s.decideSymbol ch d).sgm = s.sgm ∧ (s.decideSymbol ch d).pending = s.pending ∧
    (s.decideSymbol ch d).now = s.now ∧ (s.decideSymbol ch d).instant = s.instant ∧
    (s.decideSymbol ch d).cfg = s.cfg ∧ (s.decideSymbol ch d).isReady = s.isReady ∧
    (s.decideSymbol ch d).sectionIndex = s.sectionIndex ∧
    (s.decideSymbol ch d).sectionKnown = s.sectionKnown := by
  and_intros <;> (simp only [State.decideSymbol]; (repeat' split) <;> simp [State.now, State.instant, State.cfg, State.isReady, State.sectionIndex, State.sectionKnown])

/-- What a symbol boundary leaves as it was. -/
@[simp] theorem State.takeBoundary_frame (s : State) (ch : Channel) :
    (s.takeBoundary ch).held = s.held ∧ (s.takeBoundary ch).startAt = s.startAt ∧
    (s.takeBoundary ch).tmb = s.tmb ∧ (s.takeBoundary ch).cfl = s.cfl ∧ (s.takeBoundary ch).ntx = s.ntx ∧
    (s.takeBoundary ch).ptb = s.ptb ∧ (s.takeBoundary ch).sre = s.sre ∧ (s.takeBoundary ch).cfm = s.cfm ∧
    (s.takeBoundary ch).msu = s.msu ∧ (s.takeBoundary ch).drp = s.drp ∧ (s.takeBoundary ch).lrg = s.lrg ∧
    (s.takeBoundary ch).bch = s.bch ∧ (s.takeBoundary ch).psq = s.psq ∧ (s.takeBoundary ch).sgm = s.sgm ∧
    (s.takeBoundary ch).dlk = s.dlk ∧ (s.takeBoundary ch).fresh = s.fresh ∧
    (s.takeBoundary ch).pending = s.pending ∧ (s.takeBoundary ch).now = s.now ∧
    (s.takeBoundary ch).instant = s.instant ∧ (s.takeBoundary ch).cfg = s.cfg ∧
    (s.takeBoundary ch).isReady = s.isReady ∧ (s.takeBoundary ch).sectionIndex = s.sectionIndex ∧
    (s.takeBoundary ch).sectionKnown = s.sectionKnown := by
  and_intros <;> rfl

/-- What a symbol strobe leaves as it was. -/
@[simp] theorem State.nextSymbol_frame (s : State) :
    s.nextSymbol.held = s.held ∧ s.nextSymbol.startAt = s.startAt ∧ s.nextSymbol.tmb = s.tmb ∧
    s.nextSymbol.cfl = s.cfl ∧ s.nextSymbol.crx = s.crx ∧ s.nextSymbol.ptb = s.ptb ∧
    s.nextSymbol.sre = s.sre ∧ s.nextSymbol.cfm = s.cfm ∧ s.nextSymbol.msu = s.msu ∧
    s.nextSymbol.drp = s.drp ∧ s.nextSymbol.lrg = s.lrg ∧ s.nextSymbol.bch = s.bch ∧
    s.nextSymbol.psq = s.psq ∧ s.nextSymbol.sgm = s.sgm ∧ s.nextSymbol.dlk = s.dlk ∧
    s.nextSymbol.fresh = s.fresh ∧ s.nextSymbol.pending = s.pending ∧ s.nextSymbol.now = s.now ∧
    s.nextSymbol.instant = s.instant ∧ s.nextSymbol.cfg = s.cfg ∧ s.nextSymbol.isReady = s.isReady ∧
    s.nextSymbol.sectionIndex = s.sectionIndex ∧ s.nextSymbol.sectionKnown = s.sectionKnown := by
  and_intros <;> rfl

/-- What the start of a round leaves as it was. -/
@[simp] theorem State.startRound_frame (s : State) :
    s.startRound.held = s.held ∧ s.startRound.startAt = s.startAt ∧ s.startRound.tmb = s.tmb ∧
    s.startRound.cfl = s.cfl ∧ s.startRound.crx = s.crx ∧ s.startRound.ntx = s.ntx ∧
    s.startRound.ptb = s.ptb ∧ s.startRound.cfm = s.cfm ∧ s.startRound.msu = s.msu ∧
    s.startRound.drp = s.drp ∧ s.startRound.lrg = s.lrg ∧ s.startRound.bch = s.bch ∧
    s.startRound.psq = s.psq ∧ s.startRound.sgm = s.sgm ∧ s.startRound.dlk = s.dlk ∧
    s.startRound.fresh = s.fresh ∧ s.startRound.pending = s.pending ∧ s.startRound.now = s.now ∧
    s.startRound.instant = s.instant ∧ s.startRound.cfg = s.cfg ∧ s.startRound.isReady = s.isReady ∧
    s.startRound.sectionIndex = s.sectionIndex ∧ s.startRound.sectionKnown = s.sectionKnown := by
  and_intros <;> rfl

/-- What the zeroing of the published values leaves as it was. -/
@[simp] theorem State.zeroPublished_frame (s : State) :
    s.zeroPublished.held = s.held ∧ s.zeroPublished.startAt = s.startAt ∧ s.zeroPublished.tmb = s.tmb ∧
    s.zeroPublished.cfl = s.cfl ∧ s.zeroPublished.crx = s.crx ∧ s.zeroPublished.ntx = s.ntx ∧
    s.zeroPublished.ptb = s.ptb ∧ s.zeroPublished.cfm = s.cfm ∧ s.zeroPublished.msu = s.msu ∧
    s.zeroPublished.lrg = s.lrg ∧ s.zeroPublished.psq = s.psq ∧ s.zeroPublished.sgm = s.sgm ∧
    s.zeroPublished.dlk = s.dlk ∧ s.zeroPublished.fresh = s.fresh ∧ s.zeroPublished.pending = s.pending ∧
    s.zeroPublished.now = s.now ∧ s.zeroPublished.instant = s.instant ∧ s.zeroPublished.cfg = s.cfg ∧
    s.zeroPublished.isReady = s.isReady ∧ s.zeroPublished.sectionIndex = s.sectionIndex ∧
    s.zeroPublished.sectionKnown = s.sectionKnown := by
  and_intros <;> (simp only [State.zeroPublished]; simp [State.now, State.instant, State.cfg, State.isReady, State.sectionIndex, State.sectionKnown])

/-- What a publication leaves as it was. -/
@[simp] theorem State.publish_frame (s : State) (r : Round) :
    (s.publish r).held = s.held ∧ (s.publish r).startAt = s.startAt ∧ (s.publish r).tmb = s.tmb ∧
    (s.publish r).cfl = s.cfl ∧ (s.publish r).crx = s.crx ∧ (s.publish r).ntx = s.ntx ∧
    (s.publish r).ptb = s.ptb ∧ (s.publish r).cfm = s.cfm ∧ (s.publish r).msu = s.msu ∧
    (s.publish r).lrg = s.lrg ∧ (s.publish r).psq = s.psq ∧ (s.publish r).sgm = s.sgm ∧
    (s.publish r).dlk = s.dlk ∧ (s.publish r).fresh = s.fresh ∧ (s.publish r).pending = s.pending ∧
    (s.publish r).now = s.now ∧ (s.publish r).instant = s.instant ∧ (s.publish r).cfg = s.cfg ∧
    (s.publish r).isReady = s.isReady ∧ (s.publish r).sectionIndex = s.sectionIndex ∧
    (s.publish r).sectionKnown = s.sectionKnown := by
  and_intros <;> (simp only [State.publish]; simp [State.now, State.instant, State.cfg, State.isReady, State.sectionIndex, State.sectionKnown])

/-- What a void round leaves as it was. -/
@[simp] theorem State.voidRound_frame (s : State) :
    s.voidRound.held = s.held ∧ s.voidRound.startAt = s.startAt ∧ s.voidRound.tmb = s.tmb ∧
    s.voidRound.cfl = s.cfl ∧ s.voidRound.crx = s.crx ∧ s.voidRound.ntx = s.ntx ∧ s.voidRound.ptb = s.ptb ∧
    s.voidRound.cfm = s.cfm ∧ s.voidRound.msu = s.msu ∧ s.voidRound.drp = s.drp ∧ s.voidRound.lrg = s.lrg ∧
    s.voidRound.bch = s.bch ∧ s.voidRound.psq = s.psq ∧ s.voidRound.sgm = s.sgm ∧ s.voidRound.dlk = s.dlk ∧
    s.voidRound.fresh = s.fresh ∧ s.voidRound.pending = s.pending ∧ s.voidRound.now = s.now ∧
    s.voidRound.instant = s.instant ∧ s.voidRound.cfg = s.cfg ∧ s.voidRound.isReady = s.isReady ∧
    s.voidRound.sectionIndex = s.sectionIndex ∧ s.voidRound.sectionKnown = s.sectionKnown := by
  and_intros <;> rfl

/-- What a completion leaves as it was. -/
@[simp] theorem State.completeRound_frame (s : State) (r : Round) :
    (s.completeRound r).held = s.held ∧ (s.completeRound r).startAt = s.startAt ∧
    (s.completeRound r).tmb = s.tmb ∧ (s.completeRound r).cfl = s.cfl ∧ (s.completeRound r).crx = s.crx ∧
    (s.completeRound r).ntx = s.ntx ∧ (s.completeRound r).ptb = s.ptb ∧ (s.completeRound r).msu = s.msu ∧
    (s.completeRound r).lrg = s.lrg ∧ (s.completeRound r).psq = s.psq ∧ (s.completeRound r).sgm = s.sgm ∧
    (s.completeRound r).fresh = s.fresh ∧ (s.completeRound r).pending = s.pending ∧
    (s.completeRound r).now = s.now ∧ (s.completeRound r).instant = s.instant ∧
    (s.completeRound r).cfg = s.cfg ∧ (s.completeRound r).isReady = s.isReady ∧
    (s.completeRound r).sectionIndex = s.sectionIndex ∧
    (s.completeRound r).sectionKnown = s.sectionKnown := by
  and_intros <;> (simp only [State.completeRound]; (repeat' split) <;> simp [State.now, State.instant, State.cfg, State.isReady, State.sectionIndex, State.sectionKnown])

/-- What NTX at an expiry leaves as it was. -/
@[simp] theorem State.ntxExpiry_frame (s : State) :
    s.ntxExpiry.held = s.held ∧ s.ntxExpiry.startAt = s.startAt ∧ s.ntxExpiry.tmb = s.tmb ∧
    s.ntxExpiry.cfl = s.cfl ∧ s.ntxExpiry.crx = s.crx ∧ s.ntxExpiry.ptb = s.ptb ∧ s.ntxExpiry.sre = s.sre ∧
    s.ntxExpiry.msu = s.msu ∧ s.ntxExpiry.drp = s.drp ∧ s.ntxExpiry.lrg = s.lrg ∧ s.ntxExpiry.bch = s.bch ∧
    s.ntxExpiry.psq = s.psq ∧ s.ntxExpiry.sgm = s.sgm ∧ s.ntxExpiry.pending = s.pending ∧
    s.ntxExpiry.now = s.now ∧ s.ntxExpiry.instant = s.instant ∧ s.ntxExpiry.cfg = s.cfg ∧
    s.ntxExpiry.isReady = s.isReady ∧ s.ntxExpiry.sectionIndex = s.sectionIndex ∧
    s.ntxExpiry.sectionKnown = s.sectionKnown := by
  and_intros <;> (simp only [State.ntxExpiry]; (repeat' split) <;> simp [State.now, State.instant, State.cfg, State.isReady, State.sectionIndex, State.sectionKnown])

/-- What SRE at an expiry leaves as it was. -/
@[simp] theorem State.sreExpiry_frame (s : State) :
    s.sreExpiry.held = s.held ∧ s.sreExpiry.startAt = s.startAt ∧ s.sreExpiry.tmb = s.tmb ∧
    s.sreExpiry.cfl = s.cfl ∧ s.sreExpiry.crx = s.crx ∧ s.sreExpiry.ntx = s.ntx ∧ s.sreExpiry.ptb = s.ptb ∧
    s.sreExpiry.cfm = s.cfm ∧ s.sreExpiry.msu = s.msu ∧ s.sreExpiry.lrg = s.lrg ∧ s.sreExpiry.psq = s.psq ∧
    s.sreExpiry.sgm = s.sgm ∧ s.sreExpiry.dlk = s.dlk ∧ s.sreExpiry.fresh = s.fresh ∧
    s.sreExpiry.pending = s.pending ∧ s.sreExpiry.now = s.now ∧ s.sreExpiry.instant = s.instant ∧
    s.sreExpiry.cfg = s.cfg ∧ s.sreExpiry.isReady = s.isReady ∧ s.sreExpiry.sectionIndex = s.sectionIndex ∧
    s.sreExpiry.sectionKnown = s.sectionKnown := by
  and_intros <;> (simp only [State.sreExpiry]; (repeat' split) <;> simp [State.now, State.instant, State.cfg, State.isReady, State.sectionIndex, State.sectionKnown])

/-- What an expiry of the notice timer leaves as it was. -/
@[simp] theorem State.noticeExpiry_frame (s : State) :
    s.noticeExpiry.held = s.held ∧ s.noticeExpiry.startAt = s.startAt ∧ s.noticeExpiry.tmb = s.tmb ∧
    s.noticeExpiry.cfl = s.cfl ∧ s.noticeExpiry.crx = s.crx ∧ s.noticeExpiry.ptb = s.ptb ∧
    s.noticeExpiry.msu = s.msu ∧ s.noticeExpiry.lrg = s.lrg ∧ s.noticeExpiry.psq = s.psq ∧
    s.noticeExpiry.sgm = s.sgm ∧ s.noticeExpiry.pending = s.pending ∧ s.noticeExpiry.now = s.now ∧
    s.noticeExpiry.instant = s.instant ∧ s.noticeExpiry.cfg = s.cfg ∧ s.noticeExpiry.isReady = s.isReady ∧
    s.noticeExpiry.sectionIndex = s.sectionIndex ∧ s.noticeExpiry.sectionKnown = s.sectionKnown := by
  and_intros <;> (simp only [State.noticeExpiry]; simp [State.now, State.instant, State.cfg, State.isReady, State.sectionIndex, State.sectionKnown])

/-- What the completion of the round in flight leaves as it was. -/
@[simp] theorem State.roundEnds_frame (s : State) :
    s.roundEnds.held = s.held ∧ s.roundEnds.startAt = s.startAt ∧ s.roundEnds.tmb = s.tmb ∧
    s.roundEnds.cfl = s.cfl ∧ s.roundEnds.crx = s.crx ∧ s.roundEnds.ntx = s.ntx ∧ s.roundEnds.ptb = s.ptb ∧
    s.roundEnds.msu = s.msu ∧ s.roundEnds.lrg = s.lrg ∧ s.roundEnds.psq = s.psq ∧ s.roundEnds.sgm = s.sgm ∧
    s.roundEnds.fresh = s.fresh ∧ s.roundEnds.pending = s.pending ∧ s.roundEnds.now = s.now ∧
    s.roundEnds.instant = s.instant ∧ s.roundEnds.cfg = s.cfg ∧ s.roundEnds.isReady = s.isReady ∧
    s.roundEnds.sectionIndex = s.sectionIndex ∧ s.roundEnds.sectionKnown = s.sectionKnown := by
  and_intros <;> (simp only [State.roundEnds]; (repeat' split) <;> simp [State.now, State.instant, State.cfg, State.isReady, State.sectionIndex, State.sectionKnown])

/-- What a sweep leaves as it was. -/
@[simp] theorem State.sweepTable_frame (s : State) :
    s.sweepTable.held = s.held ∧ s.sweepTable.startAt = s.startAt ∧ s.sweepTable.tmb = s.tmb ∧
    s.sweepTable.cfl = s.cfl ∧ s.sweepTable.crx = s.crx ∧ s.sweepTable.ntx = s.ntx ∧
    s.sweepTable.sre = s.sre ∧ s.sweepTable.cfm = s.cfm ∧ s.sweepTable.msu = s.msu ∧
    s.sweepTable.drp = s.drp ∧ s.sweepTable.lrg = s.lrg ∧ s.sweepTable.bch = s.bch ∧
    s.sweepTable.psq = s.psq ∧ s.sweepTable.sgm = s.sgm ∧ s.sweepTable.dlk = s.dlk ∧
    s.sweepTable.fresh = s.fresh ∧ s.sweepTable.pending = s.pending ∧ s.sweepTable.now = s.now ∧
    s.sweepTable.instant = s.instant ∧ s.sweepTable.cfg = s.cfg ∧ s.sweepTable.isReady = s.isReady ∧
    s.sweepTable.sectionIndex = s.sectionIndex ∧ s.sweepTable.sectionKnown = s.sectionKnown := by
  and_intros <;> rfl

/-- What the STATUS trigger of a moved section leaves as it was. -/
@[simp] theorem State.triggerIfSectionMoved_frame (s : State) (b : State) :
    (s.triggerIfSectionMoved b).held = s.held ∧ (s.triggerIfSectionMoved b).startAt = s.startAt ∧
    (s.triggerIfSectionMoved b).tmb = s.tmb ∧ (s.triggerIfSectionMoved b).cfl = s.cfl ∧
    (s.triggerIfSectionMoved b).crx = s.crx ∧ (s.triggerIfSectionMoved b).ntx = s.ntx ∧
    (s.triggerIfSectionMoved b).ptb = s.ptb ∧ (s.triggerIfSectionMoved b).sre = s.sre ∧
    (s.triggerIfSectionMoved b).cfm = s.cfm ∧ (s.triggerIfSectionMoved b).msu = s.msu ∧
    (s.triggerIfSectionMoved b).drp = s.drp ∧ (s.triggerIfSectionMoved b).lrg = s.lrg ∧
    (s.triggerIfSectionMoved b).bch = s.bch ∧ (s.triggerIfSectionMoved b).psq = s.psq ∧
    (s.triggerIfSectionMoved b).sgm = s.sgm ∧ (s.triggerIfSectionMoved b).fresh = s.fresh ∧
    (s.triggerIfSectionMoved b).pending = s.pending ∧ (s.triggerIfSectionMoved b).now = s.now ∧
    (s.triggerIfSectionMoved b).instant = s.instant ∧ (s.triggerIfSectionMoved b).cfg = s.cfg ∧
    (s.triggerIfSectionMoved b).isReady = s.isReady ∧
    (s.triggerIfSectionMoved b).sectionIndex = s.sectionIndex ∧
    (s.triggerIfSectionMoved b).sectionKnown = s.sectionKnown := by
  and_intros <;> (simp only [State.triggerIfSectionMoved]; simp [State.now, State.instant, State.cfg, State.isReady, State.sectionIndex, State.sectionKnown])

/-- What the return of the pilot leaves as it was. -/
@[simp] theorem State.pilotReturned_frame (s : State) :
    s.pilotReturned.held = s.held ∧ s.pilotReturned.startAt = s.startAt ∧ s.pilotReturned.tmb = s.tmb ∧
    s.pilotReturned.cfl = s.cfl ∧ s.pilotReturned.crx = s.crx ∧ s.pilotReturned.ntx = s.ntx ∧
    s.pilotReturned.ptb = s.ptb ∧ s.pilotReturned.sre = s.sre ∧ s.pilotReturned.msu = s.msu ∧
    s.pilotReturned.drp = s.drp ∧ s.pilotReturned.lrg = s.lrg ∧ s.pilotReturned.bch = s.bch ∧
    s.pilotReturned.psq = s.psq ∧ s.pilotReturned.fresh = s.fresh ∧ s.pilotReturned.pending = s.pending ∧
    s.pilotReturned.now = s.now ∧ s.pilotReturned.instant = s.instant ∧ s.pilotReturned.cfg = s.cfg ∧
    s.pilotReturned.isReady = s.isReady := by
  and_intros <;> (simp only [State.pilotReturned]; (repeat' split) <;> simp [State.now, State.instant, State.cfg, State.isReady])

/-- What a section change leaves as it was. -/
@[simp] theorem State.changeSection_frame (s : State) (p : PilotCode) :
    (s.changeSection p).held = s.held ∧ (s.changeSection p).startAt = s.startAt ∧
    (s.changeSection p).tmb = s.tmb ∧ (s.changeSection p).cfl = s.cfl ∧ (s.changeSection p).crx = s.crx ∧
    (s.changeSection p).ntx = s.ntx ∧ (s.changeSection p).sre = s.sre ∧ (s.changeSection p).msu = s.msu ∧
    (s.changeSection p).lrg = s.lrg ∧ (s.changeSection p).psq = s.psq ∧
    (s.changeSection p).fresh = s.fresh ∧ (s.changeSection p).pending = s.pending ∧
    (s.changeSection p).now = s.now ∧ (s.changeSection p).instant = s.instant ∧
    (s.changeSection p).cfg = s.cfg ∧ (s.changeSection p).isReady = s.isReady := by
  and_intros <;> (simp only [State.changeSection]; (repeat' split) <;> simp [State.now, State.instant, State.cfg, State.isReady])

/-- What an established code leaves as it was. -/
@[simp] theorem State.establish_frame (s : State) (p : PilotCode) :
    (s.establish p).held = s.held ∧ (s.establish p).startAt = s.startAt ∧ (s.establish p).tmb = s.tmb ∧
    (s.establish p).cfl = s.cfl ∧ (s.establish p).crx = s.crx ∧ (s.establish p).ntx = s.ntx ∧
    (s.establish p).sre = s.sre ∧ (s.establish p).msu = s.msu ∧ (s.establish p).lrg = s.lrg ∧
    (s.establish p).psq = s.psq ∧ (s.establish p).fresh = s.fresh ∧ (s.establish p).pending = s.pending ∧
    (s.establish p).now = s.now ∧ (s.establish p).instant = s.instant ∧ (s.establish p).cfg = s.cfg ∧
    (s.establish p).isReady = s.isReady := by
  and_intros <;> (simp only [State.establish]; (repeat' split) <;> simp [State.now, State.instant, State.cfg, State.isReady])

/-- What a window that yields a code leaves as it was. -/
@[simp] theorem State.windowCode_frame (s : State) (p : PilotCode) :
    (s.windowCode p).held = s.held ∧ (s.windowCode p).startAt = s.startAt ∧ (s.windowCode p).tmb = s.tmb ∧
    (s.windowCode p).cfl = s.cfl ∧ (s.windowCode p).crx = s.crx ∧ (s.windowCode p).ntx = s.ntx ∧
    (s.windowCode p).sre = s.sre ∧ (s.windowCode p).msu = s.msu ∧ (s.windowCode p).lrg = s.lrg ∧
    (s.windowCode p).psq = s.psq ∧ (s.windowCode p).fresh = s.fresh ∧ (s.windowCode p).pending = s.pending ∧
    (s.windowCode p).now = s.now ∧ (s.windowCode p).instant = s.instant ∧ (s.windowCode p).cfg = s.cfg ∧
    (s.windowCode p).isReady = s.isReady := by
  and_intros <;> (simp only [State.windowCode]; (repeat' split) <;> simp [State.now, State.instant, State.cfg, State.isReady])

/-- What a window that yields none leaves as it was. -/
@[simp] theorem State.windowNone_frame (s : State) :
    s.windowNone.held = s.held ∧ s.windowNone.startAt = s.startAt ∧ s.windowNone.tmb = s.tmb ∧
    s.windowNone.cfl = s.cfl ∧ s.windowNone.crx = s.crx ∧ s.windowNone.ntx = s.ntx ∧
    s.windowNone.ptb = s.ptb ∧ s.windowNone.sre = s.sre ∧ s.windowNone.msu = s.msu ∧
    s.windowNone.drp = s.drp ∧ s.windowNone.lrg = s.lrg ∧ s.windowNone.bch = s.bch ∧
    s.windowNone.psq = s.psq ∧ s.windowNone.fresh = s.fresh ∧ s.windowNone.pending = s.pending ∧
    s.windowNone.now = s.now ∧ s.windowNone.instant = s.instant ∧ s.windowNone.cfg = s.cfg ∧
    s.windowNone.isReady = s.isReady := by
  and_intros <;> (simp only [State.windowNone]; (repeat' split) <;> simp [State.now, State.instant, State.cfg, State.isReady])

/-- What a GAP frame leaves as it was. -/
@[simp] theorem State.gapFrame_frame (s : State) (m v : Nat) :
    (s.gapFrame m v).held = s.held ∧ (s.gapFrame m v).startAt = s.startAt ∧ (s.gapFrame m v).tmb = s.tmb ∧
    (s.gapFrame m v).cfl = s.cfl ∧ (s.gapFrame m v).crx = s.crx ∧ (s.gapFrame m v).ntx = s.ntx ∧
    (s.gapFrame m v).ptb = s.ptb ∧ (s.gapFrame m v).sre = s.sre ∧ (s.gapFrame m v).cfm = s.cfm ∧
    (s.gapFrame m v).msu = s.msu ∧ (s.gapFrame m v).lrg = s.lrg ∧ (s.gapFrame m v).psq = s.psq ∧
    (s.gapFrame m v).dlk = s.dlk ∧ (s.gapFrame m v).fresh = s.fresh ∧ (s.gapFrame m v).pending = s.pending ∧
    (s.gapFrame m v).now = s.now ∧ (s.gapFrame m v).instant = s.instant ∧ (s.gapFrame m v).cfg = s.cfg ∧
    (s.gapFrame m v).isReady = s.isReady := by
  and_intros <;> (simp only [State.gapFrame]; (repeat' split) <;> simp [State.now, State.instant, State.cfg, State.isReady])

/-- What the judgement of the cut condition leaves as it was. -/
@[simp] theorem State.judgeGap_frame (s : State) :
    s.judgeGap.held = s.held ∧ s.judgeGap.startAt = s.startAt ∧ s.judgeGap.tmb = s.tmb ∧
    s.judgeGap.cfl = s.cfl ∧ s.judgeGap.crx = s.crx ∧ s.judgeGap.ntx = s.ntx ∧ s.judgeGap.ptb = s.ptb ∧
    s.judgeGap.sre = s.sre ∧ s.judgeGap.cfm = s.cfm ∧ s.judgeGap.msu = s.msu ∧ s.judgeGap.lrg = s.lrg ∧
    s.judgeGap.psq = s.psq ∧ s.judgeGap.dlk = s.dlk ∧ s.judgeGap.fresh = s.fresh ∧
    s.judgeGap.pending = s.pending ∧ s.judgeGap.now = s.now ∧ s.judgeGap.instant = s.instant ∧
    s.judgeGap.cfg = s.cfg ∧ s.judgeGap.isReady = s.isReady := by
  and_intros <;> (simp only [State.judgeGap]; (repeat' split) <;> simp [State.now, State.instant, State.cfg, State.isReady])

/-- What the end of a pilot window leaves as it was. -/
@[simp] theorem State.windowEnds_frame (s : State) (r : Option PilotCode) :
    (s.windowEnds r).held = s.held ∧ (s.windowEnds r).startAt = s.startAt ∧ (s.windowEnds r).tmb = s.tmb ∧
    (s.windowEnds r).cfl = s.cfl ∧ (s.windowEnds r).ntx = s.ntx ∧ (s.windowEnds r).sre = s.sre ∧
    (s.windowEnds r).msu = s.msu ∧ (s.windowEnds r).lrg = s.lrg ∧ (s.windowEnds r).psq = s.psq ∧
    (s.windowEnds r).fresh = s.fresh ∧ (s.windowEnds r).pending = s.pending ∧ (s.windowEnds r).now = s.now ∧
    (s.windowEnds r).instant = s.instant ∧ (s.windowEnds r).cfg = s.cfg ∧
    (s.windowEnds r).isReady = s.isReady := by
  and_intros <;> (simp only [State.windowEnds]; (repeat' split) <;> simp [State.now, State.instant, State.cfg, State.isReady])

/-- What the rejoin expiry leaves as it was. -/
@[simp] theorem State.endRejoin_frame (s : State) :
    s.endRejoin.held = s.held ∧ s.endRejoin.startAt = s.startAt ∧ s.endRejoin.tmb = s.tmb ∧
    s.endRejoin.cfl = s.cfl ∧ s.endRejoin.crx = s.crx ∧ s.endRejoin.ntx = s.ntx ∧ s.endRejoin.ptb = s.ptb ∧
    s.endRejoin.sre = s.sre ∧ s.endRejoin.msu = s.msu ∧ s.endRejoin.drp = s.drp ∧ s.endRejoin.lrg = s.lrg ∧
    s.endRejoin.bch = s.bch ∧ s.endRejoin.psq = s.psq ∧ s.endRejoin.fresh = s.fresh ∧
    s.endRejoin.pending = s.pending ∧ s.endRejoin.now = s.now ∧ s.endRejoin.instant = s.instant ∧
    s.endRejoin.cfg = s.cfg ∧ s.endRejoin.isReady = s.isReady := by
  and_intros <;> (simp only [State.endRejoin]; simp [State.now, State.instant, State.cfg, State.isReady])

/-- What a countdown that has run out leaves as it was. -/
@[simp] theorem State.countdownRunsOut_frame (s : State) :
    s.countdownRunsOut.held = s.held ∧ s.countdownRunsOut.startAt = s.startAt ∧
    s.countdownRunsOut.tmb = s.tmb ∧ s.countdownRunsOut.cfl = s.cfl ∧ s.countdownRunsOut.crx = s.crx ∧
    s.countdownRunsOut.ntx = s.ntx ∧ s.countdownRunsOut.ptb = s.ptb ∧ s.countdownRunsOut.sre = s.sre ∧
    s.countdownRunsOut.cfm = s.cfm ∧ s.countdownRunsOut.msu = s.msu ∧ s.countdownRunsOut.lrg = s.lrg ∧
    s.countdownRunsOut.psq = s.psq ∧ s.countdownRunsOut.dlk = s.dlk ∧ s.countdownRunsOut.fresh = s.fresh ∧
    s.countdownRunsOut.pending = s.pending ∧ s.countdownRunsOut.now = s.now ∧
    s.countdownRunsOut.instant = s.instant ∧ s.countdownRunsOut.cfg = s.cfg ∧
    s.countdownRunsOut.isReady = s.isReady := by
  and_intros <;> (simp only [State.countdownRunsOut]; (repeat' split) <;> simp [State.now, State.instant, State.cfg, State.isReady])

/-- What a false gap leaves as it was. -/
@[simp] theorem State.falseGap_frame (s : State) :
    s.falseGap.held = s.held ∧ s.falseGap.startAt = s.startAt ∧ s.falseGap.tmb = s.tmb ∧
    s.falseGap.cfl = s.cfl ∧ s.falseGap.crx = s.crx ∧ s.falseGap.ntx = s.ntx ∧ s.falseGap.ptb = s.ptb ∧
    s.falseGap.sre = s.sre ∧ s.falseGap.cfm = s.cfm ∧ s.falseGap.msu = s.msu ∧ s.falseGap.lrg = s.lrg ∧
    s.falseGap.psq = s.psq ∧ s.falseGap.fresh = s.fresh ∧ s.falseGap.pending = s.pending ∧
    s.falseGap.now = s.now ∧ s.falseGap.instant = s.instant ∧ s.falseGap.cfg = s.cfg ∧
    s.falseGap.isReady = s.isReady := by
  and_intros <;> (simp only [State.falseGap]; simp [State.now, State.instant, State.cfg, State.isReady])

/-- What the handing of A at zero leaves as it was. -/
@[simp] theorem State.handZero_frame (s : State) :
    s.handZero.held = s.held ∧ s.handZero.startAt = s.startAt ∧ s.handZero.tmb = s.tmb ∧
    s.handZero.cfl = s.cfl ∧ s.handZero.crx = s.crx ∧ s.handZero.ntx = s.ntx ∧ s.handZero.ptb = s.ptb ∧
    s.handZero.sre = s.sre ∧ s.handZero.cfm = s.cfm ∧ s.handZero.msu = s.msu ∧ s.handZero.sgm = s.sgm ∧
    s.handZero.fresh = s.fresh ∧ s.handZero.pending = s.pending ∧ s.handZero.now = s.now ∧
    s.handZero.instant = s.instant ∧ s.handZero.cfg = s.cfg ∧ s.handZero.isReady = s.isReady ∧
    s.handZero.sectionIndex = s.sectionIndex ∧ s.handZero.sectionKnown = s.sectionKnown := by
  and_intros <;> (simp only [State.handZero]; (repeat' split) <;> simp [State.now, State.instant, State.cfg, State.isReady, State.sectionIndex, State.sectionKnown])

/-- What a ramp step leaves as it was. -/
@[simp] theorem State.rampStep_frame (s : State) :
    s.rampStep.held = s.held ∧ s.rampStep.startAt = s.startAt ∧ s.rampStep.tmb = s.tmb ∧
    s.rampStep.cfl = s.cfl ∧ s.rampStep.crx = s.crx ∧ s.rampStep.ntx = s.ntx ∧ s.rampStep.ptb = s.ptb ∧
    s.rampStep.sre = s.sre ∧ s.rampStep.cfm = s.cfm ∧ s.rampStep.msu = s.msu ∧ s.rampStep.fresh = s.fresh ∧
    s.rampStep.pending = s.pending ∧ s.rampStep.now = s.now ∧ s.rampStep.instant = s.instant ∧
    s.rampStep.cfg = s.cfg ∧ s.rampStep.isReady = s.isReady := by
  and_intros <;> (simp only [State.rampStep]; simp [State.now, State.instant, State.cfg, State.isReady])

/-- What a voltage sample leaves as it was. -/
@[simp] theorem State.takeVoltage_frame (s : State) (v : Nat) :
    (s.takeVoltage v).held = s.held ∧ (s.takeVoltage v).startAt = s.startAt ∧
    (s.takeVoltage v).tmb = s.tmb ∧ (s.takeVoltage v).cfl = s.cfl ∧ (s.takeVoltage v).crx = s.crx ∧
    (s.takeVoltage v).ntx = s.ntx ∧ (s.takeVoltage v).ptb = s.ptb ∧ (s.takeVoltage v).sre = s.sre ∧
    (s.takeVoltage v).cfm = s.cfm ∧ (s.takeVoltage v).lrg = s.lrg ∧ (s.takeVoltage v).bch = s.bch ∧
    (s.takeVoltage v).psq = s.psq ∧ (s.takeVoltage v).sgm = s.sgm ∧ (s.takeVoltage v).dlk = s.dlk ∧
    (s.takeVoltage v).fresh = s.fresh ∧ (s.takeVoltage v).pending = s.pending ∧
    (s.takeVoltage v).now = s.now ∧ (s.takeVoltage v).instant = s.instant ∧ (s.takeVoltage v).cfg = s.cfg ∧
    (s.takeVoltage v).isReady = s.isReady ∧ (s.takeVoltage v).sectionIndex = s.sectionIndex ∧
    (s.takeVoltage v).sectionKnown = s.sectionKnown := by
  and_intros <;> (simp only [State.takeVoltage]; (repeat' split) <;> simp [State.now, State.instant, State.cfg, State.isReady, State.sectionIndex, State.sectionKnown])

/-- What the judgement in CLEAR leaves as it was. -/
@[simp] theorem State.judgeClear_frame (s : State) :
    s.judgeClear.held = s.held ∧ s.judgeClear.startAt = s.startAt ∧ s.judgeClear.tmb = s.tmb ∧
    s.judgeClear.cfl = s.cfl ∧ s.judgeClear.crx = s.crx ∧ s.judgeClear.ntx = s.ntx ∧
    s.judgeClear.ptb = s.ptb ∧ s.judgeClear.sre = s.sre ∧ s.judgeClear.drp = s.drp ∧
    s.judgeClear.lrg = s.lrg ∧ s.judgeClear.bch = s.bch ∧ s.judgeClear.psq = s.psq ∧
    s.judgeClear.sgm = s.sgm ∧ s.judgeClear.fresh = s.fresh ∧ s.judgeClear.pending = s.pending ∧
    s.judgeClear.now = s.now ∧ s.judgeClear.instant = s.instant ∧ s.judgeClear.cfg = s.cfg ∧
    s.judgeClear.isReady = s.isReady ∧ s.judgeClear.sectionIndex = s.sectionIndex ∧
    s.judgeClear.sectionKnown = s.sectionKnown := by
  and_intros <;> (simp only [State.judgeClear]; (repeat' split) <;> simp [State.now, State.instant, State.cfg, State.isReady, State.sectionIndex, State.sectionKnown])

/-- What the judgement in RAISED leaves as it was. -/
@[simp] theorem State.judgeRaised_frame (s : State) :
    s.judgeRaised.held = s.held ∧ s.judgeRaised.startAt = s.startAt ∧ s.judgeRaised.tmb = s.tmb ∧
    s.judgeRaised.cfl = s.cfl ∧ s.judgeRaised.crx = s.crx ∧ s.judgeRaised.ntx = s.ntx ∧
    s.judgeRaised.ptb = s.ptb ∧ s.judgeRaised.sre = s.sre ∧ s.judgeRaised.drp = s.drp ∧
    s.judgeRaised.lrg = s.lrg ∧ s.judgeRaised.bch = s.bch ∧ s.judgeRaised.psq = s.psq ∧
    s.judgeRaised.sgm = s.sgm ∧ s.judgeRaised.fresh = s.fresh ∧ s.judgeRaised.pending = s.pending ∧
    s.judgeRaised.now = s.now ∧ s.judgeRaised.instant = s.instant ∧ s.judgeRaised.cfg = s.cfg ∧
    s.judgeRaised.isReady = s.isReady ∧ s.judgeRaised.sectionIndex = s.sectionIndex ∧
    s.judgeRaised.sectionKnown = s.sectionKnown := by
  and_intros <;> (simp only [State.judgeRaised]; (repeat' split) <;> simp [State.now, State.instant, State.cfg, State.isReady, State.sectionIndex, State.sectionKnown])

/-- What a current sample leaves as it was. -/
@[simp] theorem State.takeCurrent_frame (s : State) (i : Int) :
    (s.takeCurrent i).held = s.held ∧ (s.takeCurrent i).startAt = s.startAt ∧
    (s.takeCurrent i).tmb = s.tmb ∧ (s.takeCurrent i).cfl = s.cfl ∧ (s.takeCurrent i).crx = s.crx ∧
    (s.takeCurrent i).ntx = s.ntx ∧ (s.takeCurrent i).ptb = s.ptb ∧ (s.takeCurrent i).sre = s.sre ∧
    (s.takeCurrent i).drp = s.drp ∧ (s.takeCurrent i).lrg = s.lrg ∧ (s.takeCurrent i).bch = s.bch ∧
    (s.takeCurrent i).psq = s.psq ∧ (s.takeCurrent i).sgm = s.sgm ∧ (s.takeCurrent i).fresh = s.fresh ∧
    (s.takeCurrent i).pending = s.pending ∧ (s.takeCurrent i).now = s.now ∧
    (s.takeCurrent i).instant = s.instant ∧ (s.takeCurrent i).cfg = s.cfg ∧
    (s.takeCurrent i).isReady = s.isReady ∧ (s.takeCurrent i).sectionIndex = s.sectionIndex ∧
    (s.takeCurrent i).sectionKnown = s.sectionKnown := by
  and_intros <;> (simp only [State.takeCurrent]; (repeat' split) <;> simp [State.now, State.instant, State.cfg, State.isReady, State.sectionIndex, State.sectionKnown])

/-- What a LOWER taken leaves as it was. -/
@[simp] theorem State.lowerTaken_frame (s : State) :
    s.lowerTaken.held = s.held ∧ s.lowerTaken.startAt = s.startAt ∧ s.lowerTaken.tmb = s.tmb ∧
    s.lowerTaken.cfl = s.cfl ∧ s.lowerTaken.crx = s.crx ∧ s.lowerTaken.ntx = s.ntx ∧
    s.lowerTaken.ptb = s.ptb ∧ s.lowerTaken.sre = s.sre ∧ s.lowerTaken.cfm = s.cfm ∧
    s.lowerTaken.msu = s.msu ∧ s.lowerTaken.sgm = s.sgm ∧ s.lowerTaken.fresh = s.fresh ∧
    s.lowerTaken.pending = s.pending ∧ s.lowerTaken.now = s.now ∧ s.lowerTaken.instant = s.instant ∧
    s.lowerTaken.cfg = s.cfg ∧ s.lowerTaken.isReady = s.isReady ∧
    s.lowerTaken.sectionIndex = s.sectionIndex ∧ s.lowerTaken.sectionKnown = s.sectionKnown := by
  and_intros <;> (simp only [State.lowerTaken]; (repeat' split) <;> simp [State.now, State.instant, State.cfg, State.isReady, State.sectionIndex, State.sectionKnown])

/-- What a filter's edge leaves as it was. -/
@[simp] theorem State.filterEdge_frame (s : State) (i : FilterId) (b : Bool) :
    (s.filterEdge i b).held = s.held ∧ (s.filterEdge i b).startAt = s.startAt ∧
    (s.filterEdge i b).tmb = s.tmb ∧ (s.filterEdge i b).cfl = s.cfl ∧ (s.filterEdge i b).crx = s.crx ∧
    (s.filterEdge i b).ptb = s.ptb ∧ (s.filterEdge i b).sre = s.sre ∧ (s.filterEdge i b).msu = s.msu ∧
    (s.filterEdge i b).fresh = s.fresh ∧ (s.filterEdge i b).pending = s.pending ∧
    (s.filterEdge i b).now = s.now ∧ (s.filterEdge i b).instant = s.instant ∧
    (s.filterEdge i b).cfg = s.cfg ∧ (s.filterEdge i b).isReady = s.isReady := by
  and_intros <;> (simp only [State.filterEdge]; (repeat' split) <;> simp [State.now, State.instant, State.cfg, State.isReady])

/-- What the raise timeout leaves as it was. -/
@[simp] theorem State.raiseTimedOut_frame (s : State) :
    s.raiseTimedOut.held = s.held ∧ s.raiseTimedOut.startAt = s.startAt ∧ s.raiseTimedOut.tmb = s.tmb ∧
    s.raiseTimedOut.cfl = s.cfl ∧ s.raiseTimedOut.crx = s.crx ∧ s.raiseTimedOut.ntx = s.ntx ∧
    s.raiseTimedOut.ptb = s.ptb ∧ s.raiseTimedOut.sre = s.sre ∧ s.raiseTimedOut.cfm = s.cfm ∧
    s.raiseTimedOut.msu = s.msu ∧ s.raiseTimedOut.sgm = s.sgm ∧ s.raiseTimedOut.fresh = s.fresh ∧
    s.raiseTimedOut.pending = s.pending ∧ s.raiseTimedOut.now = s.now ∧
    s.raiseTimedOut.instant = s.instant ∧ s.raiseTimedOut.cfg = s.cfg ∧
    s.raiseTimedOut.isReady = s.isReady ∧ s.raiseTimedOut.sectionIndex = s.sectionIndex ∧
    s.raiseTimedOut.sectionKnown = s.sectionKnown := by
  and_intros <;> (simp only [State.raiseTimedOut]; simp [State.now, State.instant, State.cfg, State.isReady, State.sectionIndex, State.sectionKnown])

/-- What the precharge expiry leaves as it was. -/
@[simp] theorem State.prechargeDone_frame (s : State) :
    s.prechargeDone.held = s.held ∧ s.prechargeDone.startAt = s.startAt ∧ s.prechargeDone.tmb = s.tmb ∧
    s.prechargeDone.cfl = s.cfl ∧ s.prechargeDone.crx = s.crx ∧ s.prechargeDone.ntx = s.ntx ∧
    s.prechargeDone.ptb = s.ptb ∧ s.prechargeDone.sre = s.sre ∧ s.prechargeDone.cfm = s.cfm ∧
    s.prechargeDone.msu = s.msu ∧ s.prechargeDone.sgm = s.sgm ∧ s.prechargeDone.fresh = s.fresh ∧
    s.prechargeDone.pending = s.pending ∧ s.prechargeDone.now = s.now ∧
    s.prechargeDone.instant = s.instant ∧ s.prechargeDone.cfg = s.cfg ∧
    s.prechargeDone.isReady = s.isReady ∧ s.prechargeDone.sectionIndex = s.sectionIndex ∧
    s.prechargeDone.sectionKnown = s.sectionKnown := by
  and_intros <;> (simp only [State.prechargeDone]; (repeat' split) <;> simp [State.now, State.instant, State.cfg, State.isReady, State.sectionIndex, State.sectionKnown])

/-- What the reacquire expiry leaves as it was. -/
@[simp] theorem State.reacquireTimedOut_frame (s : State) :
    s.reacquireTimedOut.held = s.held ∧ s.reacquireTimedOut.startAt = s.startAt ∧
    s.reacquireTimedOut.tmb = s.tmb ∧ s.reacquireTimedOut.cfl = s.cfl ∧ s.reacquireTimedOut.crx = s.crx ∧
    s.reacquireTimedOut.ntx = s.ntx ∧ s.reacquireTimedOut.ptb = s.ptb ∧ s.reacquireTimedOut.sre = s.sre ∧
    s.reacquireTimedOut.cfm = s.cfm ∧ s.reacquireTimedOut.msu = s.msu ∧ s.reacquireTimedOut.sgm = s.sgm ∧
    s.reacquireTimedOut.fresh = s.fresh ∧ s.reacquireTimedOut.pending = s.pending ∧
    s.reacquireTimedOut.now = s.now ∧ s.reacquireTimedOut.instant = s.instant ∧
    s.reacquireTimedOut.cfg = s.cfg ∧ s.reacquireTimedOut.isReady = s.isReady ∧
    s.reacquireTimedOut.sectionIndex = s.sectionIndex ∧
    s.reacquireTimedOut.sectionKnown = s.sectionKnown := by
  and_intros <;> (simp only [State.reacquireTimedOut]; simp [State.now, State.instant, State.cfg, State.isReady, State.sectionIndex, State.sectionKnown])

/-- What the retract timeout leaves as it was. -/
@[simp] theorem State.retractTimedOut_frame (s : State) :
    s.retractTimedOut.held = s.held ∧ s.retractTimedOut.startAt = s.startAt ∧
    s.retractTimedOut.tmb = s.tmb ∧ s.retractTimedOut.cfl = s.cfl ∧ s.retractTimedOut.crx = s.crx ∧
    s.retractTimedOut.ntx = s.ntx ∧ s.retractTimedOut.ptb = s.ptb ∧ s.retractTimedOut.sre = s.sre ∧
    s.retractTimedOut.cfm = s.cfm ∧ s.retractTimedOut.msu = s.msu ∧ s.retractTimedOut.sgm = s.sgm ∧
    s.retractTimedOut.fresh = s.fresh ∧ s.retractTimedOut.pending = s.pending ∧
    s.retractTimedOut.now = s.now ∧ s.retractTimedOut.instant = s.instant ∧ s.retractTimedOut.cfg = s.cfg ∧
    s.retractTimedOut.isReady = s.isReady ∧ s.retractTimedOut.sectionIndex = s.sectionIndex ∧
    s.retractTimedOut.sectionKnown = s.sectionKnown := by
  and_intros <;> (simp only [State.retractTimedOut]; simp [State.now, State.instant, State.cfg, State.isReady, State.sectionIndex, State.sectionKnown])

/-- What a ring advance leaves as it was. -/
@[simp] theorem State.ringAdvances_frame (s : State) :
    s.ringAdvances.held = s.held ∧ s.ringAdvances.startAt = s.startAt ∧ s.ringAdvances.tmb = s.tmb ∧
    s.ringAdvances.cfl = s.cfl ∧ s.ringAdvances.crx = s.crx ∧ s.ringAdvances.ntx = s.ntx ∧
    s.ringAdvances.ptb = s.ptb ∧ s.ringAdvances.sre = s.sre ∧ s.ringAdvances.cfm = s.cfm ∧
    s.ringAdvances.msu = s.msu ∧ s.ringAdvances.sgm = s.sgm ∧ s.ringAdvances.fresh = s.fresh ∧
    s.ringAdvances.pending = s.pending ∧ s.ringAdvances.now = s.now ∧ s.ringAdvances.instant = s.instant ∧
    s.ringAdvances.cfg = s.cfg ∧ s.ringAdvances.isReady = s.isReady ∧
    s.ringAdvances.sectionIndex = s.sectionIndex ∧ s.ringAdvances.sectionKnown = s.sectionKnown := by
  and_intros <;> (simp only [State.ringAdvances]; (repeat' split) <;> simp [State.now, State.instant, State.cfg, State.isReady, State.sectionIndex, State.sectionKnown])

/-- What a dropped frame leaves as it was. -/
@[simp] theorem State.dropFrame_frame (s : State) :
    s.dropFrame.held = s.held ∧ s.dropFrame.startAt = s.startAt ∧ s.dropFrame.tmb = s.tmb ∧
    s.dropFrame.cfl = s.cfl ∧ s.dropFrame.crx = s.crx ∧ s.dropFrame.ntx = s.ntx ∧ s.dropFrame.ptb = s.ptb ∧
    s.dropFrame.sre = s.sre ∧ s.dropFrame.cfm = s.cfm ∧ s.dropFrame.msu = s.msu ∧ s.dropFrame.drp = s.drp ∧
    s.dropFrame.lrg = s.lrg ∧ s.dropFrame.bch = s.bch ∧ s.dropFrame.psq = s.psq ∧ s.dropFrame.sgm = s.sgm ∧
    s.dropFrame.fresh = s.fresh ∧ s.dropFrame.pending = s.pending ∧ s.dropFrame.now = s.now ∧
    s.dropFrame.instant = s.instant ∧ s.dropFrame.cfg = s.cfg ∧ s.dropFrame.isReady = s.isReady ∧
    s.dropFrame.sectionIndex = s.sectionIndex ∧ s.dropFrame.sectionKnown = s.sectionKnown := by
  and_intros <;> rfl

/-- What the emptying of the buffer leaves as it was. -/
@[simp] theorem State.clearBuffer_frame (s : State) :
    s.clearBuffer.held = s.held ∧ s.clearBuffer.startAt = s.startAt ∧ s.clearBuffer.tmb = s.tmb ∧
    s.clearBuffer.cfl = s.cfl ∧ s.clearBuffer.crx = s.crx ∧ s.clearBuffer.ntx = s.ntx ∧
    s.clearBuffer.ptb = s.ptb ∧ s.clearBuffer.sre = s.sre ∧ s.clearBuffer.cfm = s.cfm ∧
    s.clearBuffer.msu = s.msu ∧ s.clearBuffer.drp = s.drp ∧ s.clearBuffer.lrg = s.lrg ∧
    s.clearBuffer.bch = s.bch ∧ s.clearBuffer.psq = s.psq ∧ s.clearBuffer.sgm = s.sgm ∧
    s.clearBuffer.fresh = s.fresh ∧ s.clearBuffer.pending = s.pending ∧ s.clearBuffer.now = s.now ∧
    s.clearBuffer.instant = s.instant ∧ s.clearBuffer.cfg = s.cfg ∧ s.clearBuffer.isReady = s.isReady ∧
    s.clearBuffer.sectionIndex = s.sectionIndex ∧ s.clearBuffer.sectionKnown = s.sectionKnown := by
  and_intros <;> rfl

/-- What a DEMAND taken leaves as it was. -/
@[simp] theorem State.takeDemand_frame (s : State) (c : TruckClass) (d o : Nat) :
    (s.takeDemand c d o).held = s.held ∧ (s.takeDemand c d o).startAt = s.startAt ∧
    (s.takeDemand c d o).tmb = s.tmb ∧ (s.takeDemand c d o).cfl = s.cfl ∧ (s.takeDemand c d o).crx = s.crx ∧
    (s.takeDemand c d o).ntx = s.ntx ∧ (s.takeDemand c d o).ptb = s.ptb ∧ (s.takeDemand c d o).sre = s.sre ∧
    (s.takeDemand c d o).cfm = s.cfm ∧ (s.takeDemand c d o).msu = s.msu ∧ (s.takeDemand c d o).lrg = s.lrg ∧
    (s.takeDemand c d o).bch = s.bch ∧ (s.takeDemand c d o).psq = s.psq ∧ (s.takeDemand c d o).sgm = s.sgm ∧
    (s.takeDemand c d o).fresh = s.fresh ∧ (s.takeDemand c d o).pending = s.pending ∧
    (s.takeDemand c d o).now = s.now ∧ (s.takeDemand c d o).instant = s.instant ∧
    (s.takeDemand c d o).cfg = s.cfg ∧ (s.takeDemand c d o).isReady = s.isReady ∧
    (s.takeDemand c d o).sectionIndex = s.sectionIndex ∧
    (s.takeDemand c d o).sectionKnown = s.sectionKnown := by
  and_intros <;> (simp only [State.takeDemand]; (repeat' split) <;> simp [State.now, State.instant, State.cfg, State.isReady, State.sectionIndex, State.sectionKnown])

/-- What a DEMAND frame leaves as it was. -/
@[simp] theorem State.demandFrame_frame (s : State) (payload : List Byte) :
    (State.demandFrame payload s).held = s.held ∧ (State.demandFrame payload s).startAt = s.startAt ∧
    (State.demandFrame payload s).tmb = s.tmb ∧ (State.demandFrame payload s).cfl = s.cfl ∧
    (State.demandFrame payload s).crx = s.crx ∧ (State.demandFrame payload s).ntx = s.ntx ∧
    (State.demandFrame payload s).ptb = s.ptb ∧ (State.demandFrame payload s).sre = s.sre ∧
    (State.demandFrame payload s).cfm = s.cfm ∧ (State.demandFrame payload s).msu = s.msu ∧
    (State.demandFrame payload s).lrg = s.lrg ∧ (State.demandFrame payload s).bch = s.bch ∧
    (State.demandFrame payload s).psq = s.psq ∧ (State.demandFrame payload s).sgm = s.sgm ∧
    (State.demandFrame payload s).fresh = s.fresh ∧ (State.demandFrame payload s).pending = s.pending ∧
    (State.demandFrame payload s).now = s.now ∧ (State.demandFrame payload s).instant = s.instant ∧
    (State.demandFrame payload s).cfg = s.cfg ∧ (State.demandFrame payload s).isReady = s.isReady ∧
    (State.demandFrame payload s).sectionIndex = s.sectionIndex ∧
    (State.demandFrame payload s).sectionKnown = s.sectionKnown := by
  and_intros <;> (simp only [State.demandFrame]; (repeat' split) <;> simp [State.now, State.instant, State.cfg, State.isReady, State.sectionIndex, State.sectionKnown])

/-- What a PANTO RAISE leaves as it was. -/
@[simp] theorem State.raiseFrame_frame (s : State) :
    s.raiseFrame.held = s.held ∧ s.raiseFrame.startAt = s.startAt ∧ s.raiseFrame.tmb = s.tmb ∧
    s.raiseFrame.cfl = s.cfl ∧ s.raiseFrame.crx = s.crx ∧ s.raiseFrame.ntx = s.ntx ∧
    s.raiseFrame.ptb = s.ptb ∧ s.raiseFrame.sre = s.sre ∧ s.raiseFrame.cfm = s.cfm ∧
    s.raiseFrame.msu = s.msu ∧ s.raiseFrame.sgm = s.sgm ∧ s.raiseFrame.fresh = s.fresh ∧
    s.raiseFrame.pending = s.pending ∧ s.raiseFrame.now = s.now ∧ s.raiseFrame.instant = s.instant ∧
    s.raiseFrame.cfg = s.cfg ∧ s.raiseFrame.isReady = s.isReady ∧
    s.raiseFrame.sectionIndex = s.sectionIndex ∧ s.raiseFrame.sectionKnown = s.sectionKnown := by
  and_intros <;> (simp only [State.raiseFrame]; (repeat' split) <;> simp [State.now, State.instant, State.cfg, State.isReady, State.sectionIndex, State.sectionKnown])

/-- What a PANTO LOWER leaves as it was. -/
@[simp] theorem State.lowerFrame_frame (s : State) :
    s.lowerFrame.held = s.held ∧ s.lowerFrame.startAt = s.startAt ∧ s.lowerFrame.tmb = s.tmb ∧
    s.lowerFrame.cfl = s.cfl ∧ s.lowerFrame.crx = s.crx ∧ s.lowerFrame.ntx = s.ntx ∧
    s.lowerFrame.ptb = s.ptb ∧ s.lowerFrame.sre = s.sre ∧ s.lowerFrame.cfm = s.cfm ∧
    s.lowerFrame.msu = s.msu ∧ s.lowerFrame.sgm = s.sgm ∧ s.lowerFrame.fresh = s.fresh ∧
    s.lowerFrame.pending = s.pending ∧ s.lowerFrame.now = s.now ∧ s.lowerFrame.instant = s.instant ∧
    s.lowerFrame.cfg = s.cfg ∧ s.lowerFrame.isReady = s.isReady ∧
    s.lowerFrame.sectionIndex = s.sectionIndex ∧ s.lowerFrame.sectionKnown = s.sectionKnown := by
  and_intros <;> (simp only [State.lowerFrame]; (repeat' split) <;> simp [State.now, State.instant, State.cfg, State.isReady, State.sectionIndex, State.sectionKnown])

/-- What a GAP frame taken leaves as it was. -/
@[simp] theorem State.gapTaken_frame (s : State) (payload : List Byte) :
    (State.gapTaken payload s).held = s.held ∧ (State.gapTaken payload s).startAt = s.startAt ∧
    (State.gapTaken payload s).tmb = s.tmb ∧ (State.gapTaken payload s).cfl = s.cfl ∧
    (State.gapTaken payload s).crx = s.crx ∧ (State.gapTaken payload s).ntx = s.ntx ∧
    (State.gapTaken payload s).ptb = s.ptb ∧ (State.gapTaken payload s).sre = s.sre ∧
    (State.gapTaken payload s).cfm = s.cfm ∧ (State.gapTaken payload s).msu = s.msu ∧
    (State.gapTaken payload s).lrg = s.lrg ∧ (State.gapTaken payload s).psq = s.psq ∧
    (State.gapTaken payload s).dlk = s.dlk ∧ (State.gapTaken payload s).fresh = s.fresh ∧
    (State.gapTaken payload s).pending = s.pending ∧ (State.gapTaken payload s).now = s.now ∧
    (State.gapTaken payload s).instant = s.instant ∧ (State.gapTaken payload s).cfg = s.cfg ∧
    (State.gapTaken payload s).isReady = s.isReady := by
  and_intros <;> (simp only [State.gapTaken]; simp [State.now, State.instant, State.cfg, State.isReady])

/-- What the beginning of link silence leaves as it was. -/
@[simp] theorem State.beginSilence_frame (s : State) :
    s.beginSilence.held = s.held ∧ s.beginSilence.startAt = s.startAt ∧ s.beginSilence.tmb = s.tmb ∧
    s.beginSilence.cfl = s.cfl ∧ s.beginSilence.crx = s.crx ∧ s.beginSilence.ntx = s.ntx ∧
    s.beginSilence.ptb = s.ptb ∧ s.beginSilence.sre = s.sre ∧ s.beginSilence.cfm = s.cfm ∧
    s.beginSilence.msu = s.msu ∧ s.beginSilence.lrg = s.lrg ∧ s.beginSilence.bch = s.bch ∧
    s.beginSilence.psq = s.psq ∧ s.beginSilence.sgm = s.sgm ∧ s.beginSilence.fresh = s.fresh ∧
    s.beginSilence.pending = s.pending ∧ s.beginSilence.now = s.now ∧ s.beginSilence.instant = s.instant ∧
    s.beginSilence.cfg = s.cfg ∧ s.beginSilence.isReady = s.isReady ∧
    s.beginSilence.sectionIndex = s.sectionIndex ∧ s.beginSilence.sectionKnown = s.sectionKnown := by
  and_intros <;> (simp only [State.beginSilence]; simp [State.now, State.instant, State.cfg, State.isReady, State.sectionIndex, State.sectionKnown])

/-- What the stow condition leaves as it was. -/
@[simp] theorem State.standStow_frame (s : State) :
    s.standStow.held = s.held ∧ s.standStow.startAt = s.startAt ∧ s.standStow.tmb = s.tmb ∧
    s.standStow.cfl = s.cfl ∧ s.standStow.crx = s.crx ∧ s.standStow.ntx = s.ntx ∧ s.standStow.ptb = s.ptb ∧
    s.standStow.sre = s.sre ∧ s.standStow.cfm = s.cfm ∧ s.standStow.msu = s.msu ∧ s.standStow.sgm = s.sgm ∧
    s.standStow.fresh = s.fresh ∧ s.standStow.pending = s.pending ∧ s.standStow.now = s.now ∧
    s.standStow.instant = s.instant ∧ s.standStow.cfg = s.cfg ∧ s.standStow.isReady = s.isReady ∧
    s.standStow.sectionIndex = s.sectionIndex ∧ s.standStow.sectionKnown = s.sectionKnown := by
  and_intros <;> (simp only [State.standStow]; (repeat' split) <;> simp [State.now, State.instant, State.cfg, State.isReady, State.sectionIndex, State.sectionKnown])

/-- What the composition of LIMIT leaves as it was. -/
@[simp] theorem State.composeLimit_frame (s : State) :
    s.composeLimit.held = s.held ∧ s.composeLimit.startAt = s.startAt ∧ s.composeLimit.tmb = s.tmb ∧
    s.composeLimit.cfl = s.cfl ∧ s.composeLimit.crx = s.crx ∧ s.composeLimit.ntx = s.ntx ∧
    s.composeLimit.ptb = s.ptb ∧ s.composeLimit.sre = s.sre ∧ s.composeLimit.cfm = s.cfm ∧
    s.composeLimit.msu = s.msu ∧ s.composeLimit.drp = s.drp ∧ s.composeLimit.lrg = s.lrg ∧
    s.composeLimit.bch = s.bch ∧ s.composeLimit.psq = s.psq ∧ s.composeLimit.sgm = s.sgm ∧
    s.composeLimit.fresh = s.fresh ∧ s.composeLimit.pending = s.pending ∧ s.composeLimit.now = s.now ∧
    s.composeLimit.instant = s.instant ∧ s.composeLimit.cfg = s.cfg ∧ s.composeLimit.isReady = s.isReady ∧
    s.composeLimit.sectionIndex = s.sectionIndex ∧ s.composeLimit.sectionKnown = s.sectionKnown := by
  and_intros <;> rfl

/-- What the end of a frame leaves as it was. -/
@[simp] theorem State.endSending_frame (s : State) :
    s.endSending.held = s.held ∧ s.endSending.startAt = s.startAt ∧ s.endSending.tmb = s.tmb ∧
    s.endSending.cfl = s.cfl ∧ s.endSending.crx = s.crx ∧ s.endSending.ntx = s.ntx ∧
    s.endSending.ptb = s.ptb ∧ s.endSending.sre = s.sre ∧ s.endSending.cfm = s.cfm ∧
    s.endSending.msu = s.msu ∧ s.endSending.drp = s.drp ∧ s.endSending.lrg = s.lrg ∧
    s.endSending.bch = s.bch ∧ s.endSending.psq = s.psq ∧ s.endSending.sgm = s.sgm ∧
    s.endSending.fresh = s.fresh ∧ s.endSending.pending = s.pending ∧ s.endSending.now = s.now ∧
    s.endSending.instant = s.instant ∧ s.endSending.cfg = s.cfg ∧ s.endSending.isReady = s.isReady ∧
    s.endSending.sectionIndex = s.sectionIndex ∧ s.endSending.sectionKnown = s.sectionKnown := by
  and_intros <;> rfl

/-- What an entry to HALTED leaves as it was. -/
@[simp] theorem State.halt_frame (s : State) (r : HaltReason) :
    (s.halt r).held = s.held ∧ (s.halt r).startAt = s.startAt ∧ (s.halt r).tmb = s.tmb ∧
    (s.halt r).crx = s.crx ∧ (s.halt r).ntx = s.ntx ∧ (s.halt r).ptb = s.ptb ∧ (s.halt r).sre = s.sre ∧
    (s.halt r).cfm = s.cfm ∧ (s.halt r).msu = s.msu ∧ (s.halt r).drp = s.drp ∧ (s.halt r).lrg = s.lrg ∧
    (s.halt r).bch = s.bch ∧ (s.halt r).sgm = s.sgm ∧ (s.halt r).fresh = s.fresh ∧
    (s.halt r).pending = s.pending ∧ (s.halt r).now = s.now ∧ (s.halt r).instant = s.instant ∧
    (s.halt r).sectionIndex = s.sectionIndex := by
  and_intros <;> (simp only [State.halt]; (repeat' split) <;> simp [State.now, State.instant, State.sectionIndex])

/-- What the judgement of a block leaves as it was. -/
@[simp] theorem State.judgeBlock_frame (s : State) (b : List Byte) :
    (s.judgeBlock b).held = s.held ∧ (s.judgeBlock b).startAt = s.startAt ∧ (s.judgeBlock b).tmb = s.tmb ∧
    (s.judgeBlock b).crx = s.crx ∧ (s.judgeBlock b).ntx = s.ntx ∧ (s.judgeBlock b).ptb = s.ptb ∧
    (s.judgeBlock b).sre = s.sre ∧ (s.judgeBlock b).cfm = s.cfm ∧ (s.judgeBlock b).msu = s.msu ∧
    (s.judgeBlock b).drp = s.drp ∧ (s.judgeBlock b).lrg = s.lrg ∧ (s.judgeBlock b).bch = s.bch ∧
    (s.judgeBlock b).sgm = s.sgm ∧ (s.judgeBlock b).fresh = s.fresh ∧ (s.judgeBlock b).pending = s.pending ∧
    (s.judgeBlock b).now = s.now ∧ (s.judgeBlock b).instant = s.instant ∧
    (s.judgeBlock b).sectionIndex = s.sectionIndex := by
  and_intros <;> (simp only [State.judgeBlock]; (repeat' split) <;> simp [State.now, State.instant, State.sectionIndex])

/-- What the start of the timers leaves as it was. -/
@[simp] theorem State.startTimers_frame (s : State) :
    s.startTimers.held = s.held ∧ s.startTimers.startAt = s.startAt ∧ s.startTimers.tmb = s.tmb ∧
    s.startTimers.cfl = s.cfl ∧ s.startTimers.sre = s.sre ∧ s.startTimers.cfm = s.cfm ∧
    s.startTimers.msu = s.msu ∧ s.startTimers.lrg = s.lrg ∧ s.startTimers.bch = s.bch ∧
    s.startTimers.psq = s.psq ∧ s.startTimers.sgm = s.sgm ∧ s.startTimers.fresh = s.fresh ∧
    s.startTimers.pending = s.pending ∧ s.startTimers.now = s.now ∧ s.startTimers.instant = s.instant ∧
    s.startTimers.cfg = s.cfg ∧ s.startTimers.isReady = s.isReady ∧
    s.startTimers.sectionIndex = s.sectionIndex ∧ s.startTimers.sectionKnown = s.sectionKnown := by
  and_intros <;> (simp only [State.startTimers] <;> simp [State.now, State.instant, State.cfg, State.isReady, State.sectionIndex, State.sectionKnown])

/-- What READY leaves as it was. -/
@[simp] theorem State.enterReady_frame (s : State) :
    s.enterReady.held = s.held ∧ s.enterReady.startAt = s.startAt ∧ s.enterReady.tmb = s.tmb ∧
    s.enterReady.sre = s.sre ∧ s.enterReady.cfm = s.cfm ∧
    s.enterReady.msu = { s.msu with runsFrom := some s.instant } ∧
    s.enterReady.sgm = s.sgm ∧ s.enterReady.fresh = s.fresh ∧ s.enterReady.pending = s.pending ∧
    s.enterReady.now = s.now ∧ s.enterReady.instant = s.instant ∧
    s.enterReady.sectionIndex = s.sectionIndex := by
  and_intros <;> (simp only [State.enterReady]; (repeat' split) <;> simp [State.now, State.instant, State.sectionIndex])

/-- What the queueing of events leaves as it was. -/
@[simp] theorem State.queueEvents_frame (s : State) (e : List Instr) :
    (s.queueEvents e).held = s.held ∧ (s.queueEvents e).startAt = s.startAt ∧
    (s.queueEvents e).tmb = s.tmb ∧ (s.queueEvents e).cfl = s.cfl ∧ (s.queueEvents e).crx = s.crx ∧
    (s.queueEvents e).ntx = s.ntx ∧ (s.queueEvents e).ptb = s.ptb ∧ (s.queueEvents e).sre = s.sre ∧
    (s.queueEvents e).cfm = s.cfm ∧ (s.queueEvents e).msu = s.msu ∧ (s.queueEvents e).drp = s.drp ∧
    (s.queueEvents e).lrg = s.lrg ∧ (s.queueEvents e).bch = s.bch ∧ (s.queueEvents e).psq = s.psq ∧
    (s.queueEvents e).sgm = s.sgm ∧ (s.queueEvents e).dlk = s.dlk ∧ (s.queueEvents e).now = s.now ∧
    (s.queueEvents e).instant = s.instant ∧ (s.queueEvents e).cfg = s.cfg ∧
    (s.queueEvents e).isReady = s.isReady ∧ (s.queueEvents e).sectionIndex = s.sectionIndex ∧
    (s.queueEvents e).sectionKnown = s.sectionKnown := by
  and_intros <;> rfl

/-- What the tone divider leaves as it was. -/
@[simp] theorem State.runDivider_frame (s : State) :
    s.runDivider.held = s.held ∧ s.runDivider.startAt = s.startAt ∧ s.runDivider.tmb = s.tmb ∧
    s.runDivider.cfl = s.cfl ∧ s.runDivider.crx = s.crx ∧ s.runDivider.ptb = s.ptb ∧
    s.runDivider.sre = s.sre ∧ s.runDivider.cfm = s.cfm ∧ s.runDivider.msu = s.msu ∧
    s.runDivider.drp = s.drp ∧ s.runDivider.lrg = s.lrg ∧ s.runDivider.bch = s.bch ∧
    s.runDivider.psq = s.psq ∧ s.runDivider.sgm = s.sgm ∧ s.runDivider.dlk = s.dlk ∧
    s.runDivider.fresh = s.fresh ∧ s.runDivider.pending = s.pending ∧ s.runDivider.now = s.now ∧
    s.runDivider.instant = s.instant ∧ s.runDivider.cfg = s.cfg ∧ s.runDivider.isReady = s.isReady ∧
    s.runDivider.sectionIndex = s.sectionIndex ∧ s.runDivider.sectionKnown = s.sectionKnown := by
  and_intros <;> (simp only [State.runDivider]; (repeat' split) <;> simp [State.now, State.instant, State.cfg, State.isReady, State.sectionIndex, State.sectionKnown])

/-- What an idle moment leaves as it was. -/
@[simp] theorem State.idle_frame (s : State) :
    s.idle.held = s.held ∧ s.idle.startAt = s.startAt ∧ s.idle.cfl = s.cfl ∧ s.idle.crx = s.crx ∧
    s.idle.ptb = s.ptb ∧ s.idle.sre = s.sre ∧ s.idle.cfm = s.cfm ∧ s.idle.msu = s.msu ∧ s.idle.drp = s.drp ∧
    s.idle.lrg = s.lrg ∧ s.idle.bch = s.bch ∧ s.idle.psq = s.psq ∧ s.idle.sgm = s.sgm ∧ s.idle.dlk = s.dlk ∧
    s.idle.cfg = s.cfg ∧ s.idle.isReady = s.isReady ∧ s.idle.sectionIndex = s.sectionIndex ∧
    s.idle.sectionKnown = s.sectionKnown := by
  and_intros <;> (simp only [State.idle]; (repeat' split) <;> simp [State.cfg, State.isReady, State.sectionIndex, State.sectionKnown])

end Sys2Proof.Machine
end

