-- ==== Sys2Proof/Laws/OpSpecs.lean ====
section
/-! SUPPORT. What each shared operation does to the block it acts on, said once: fields as bits, the time base, tones
and decisions, the causes and the level, the transmitter, the draw ramp, the reference, the chopper, the sequencer and
the drive link. -/

namespace Sys2Proof.Machine

/-! ## Fields as bits (R172, R173) -/

/-- The bits of a number, most significant first, are as many as the width. -/
@[simp] theorem bitsMsb_length : ∀ (width n : Nat), (bitsMsb width n).length = width
  | 0, _ => rfl
  | w + 1, n => by simp [bitsMsb, bitsMsb_length w]

/-- A field's bits stand most significant first (R173). -/
theorem bitsMsb_getElem? : ∀ {width : Nat} (n : Nat) {i : Nat}, i < width →
    (bitsMsb width n)[i]? = some (n.testBit (width - 1 - i))
  | w + 1, n, 0, _ => by simp [bitsMsb]
  | w + 1, n, i + 1, h => by
    rw [bitsMsb, List.getElem?_cons_succ, bitsMsb_getElem? n (by omega)]
    congr 2
    omega

/-! ## TMB and the timers -/

/-- An instant as crystal cycles: 8,192 to the tick (R166). -/
theorem Tmb.instant_toNat (t : Tmb) : t.instant.toNat = t.tick.toNat * 8192 + t.phase.toNat := by
  rw [Tmb.instant, BitVec.toNat_append, ← Nat.shiftLeft_add_eq_or_of_lt t.phase.isLt, Nat.shiftLeft_eq]

/-- The crystal advances by one cycle, and the tick count with every 8,192nd (R166). -/
@[simp] theorem Tmb.advance_instant (t : Tmb) : t.advance.instant = t.instant + 1 := by
  apply BitVec.eq_of_toNat_eq
  rw [BitVec.toNat_add, Tmb.instant_toNat, Tmb.instant_toNat, show (1 : Instant).toNat = 1 from rfl]
  have hp := t.phase.isLt
  have ht := t.tick.isLt
  simp only [Tmb.advance]
  split
  · next h => simp [h]; omega
  · next h =>
    have : t.phase.toNat ≠ 8191 := fun e => h (BitVec.eq_of_toNat_eq e)
    simp; omega

/-- A timer is due where it runs and its expiry has come (R166). -/
theorem Timer.due_iff (t : Timer) (now : Tick) :
    t.due now = true ↔ ∃ expiry : Tick, t = some expiry ∧ reached now expiry = true := by
  cases t <;> simp [Timer.due]

/-- The free order of coinciding events only rearranges them (log entry 4). -/
theorem arrange_perm : ∀ (n : Nat) (events : List Instr), (arrange n events).Perm events
  | _, [] | _, [_] => by simp [arrange]
  | n, c :: d :: rest => by
    have h := arrange_perm (n + 1) (d :: rest)
    unfold arrange
    refine (List.perm_insertIdx c _ ?_).trans (h.cons c)
    rw [h.length_eq]
    exact Nat.le_of_lt_succ (Nat.mod_lt _ (by simp))

/-! ## CRX -/

/-- The accepted band of a tone, ends included (R2). -/
theorem accepts_iff (tone milliHz : Nat) :
    accepts tone milliHz = true ↔ 1000 * tone ≤ milliHz + 500000 ∧ milliHz ≤ 1000 * tone + 500000 := by
  simp [accepts]

/-- A tone's presence over the 1 ms examined (R8). -/
theorem tonePresent_iff (steady : List Component) (tone : Nat) : tonePresent steady tone = true ↔
    ∃ c ∈ steady, accepts tone c.lowest = true ∧ accepts tone c.highest = true := by
  simp [tonePresent]

/-- MARK is the mark tone alone (R8). -/
theorem Symbol.ofTones_mark (mark space : Bool) :
    Symbol.ofTones mark space = .mark ↔ mark = true ∧ space = false := by
  cases mark <;> cases space <;> simp [Symbol.ofTones]

/-- SPACE is the space tone alone (R8). -/
theorem Symbol.ofTones_space (mark space : Bool) :
    Symbol.ofTones mark space = .space ↔ space = true ∧ mark = false := by
  cases mark <;> cases space <;> simp [Symbol.ofTones]

/-! ## CFM -/

@[simp] theorem State.triggerStatusIf_cfm (s : State) (b : Bool) : (s.triggerStatusIf b).cfm = s.cfm := by
  unfold State.triggerStatusIf; split <;> rfl

@[simp] theorem State.withCfm_cfm (s : State) (m : Cfm) : (s.withCfm m).cfm = m := by simp [State.withCfm]

@[simp] theorem State.raiseCause_cfm (s : State) (c : Cause) : (s.raiseCause c).cfm = s.cfm.raise c := by
  simp [State.raiseCause]

@[simp] theorem State.clearCause_cfm (s : State) (c : Cause) : (s.clearCause c).cfm = s.cfm.clear c := by
  simp [State.clearCause]

@[simp] theorem State.reportCause_cfm (s : State) (c : Cause) (active : Bool) :
    (s.reportCause c active).cfm = if active then s.cfm.raise c else s.cfm.clear c := by
  unfold State.reportCause; split <;> simp

/-- A raise sets its cause and no other (R146). -/
@[simp] theorem Cfm.raise_causes (m : Cfm) (c : Cause) : (m.raise c).causes = m.causes.put true c := by
  unfold Cfm.raise; dsimp only; split <;> rfl

/-- A clear removes its cause and leaves the level and the recovery count (R149). -/
@[simp] theorem Cfm.clear_eq (m : Cfm) (c : Cause) :
    (m.clear c).causes = m.causes.put false c ∧ (m.clear c).level = m.level ∧
      (m.clear c).recovery = m.recovery := ⟨rfl, rfl, rfl⟩

/-- The level after a raise: the more severe of the level and the required level (R147). -/
theorem Cfm.raise_level (m : Cfm) (c : Cause) :
    (m.raise c).level = if m.level.severity < (m.causes.put true c).required.severity
      then (m.causes.put true c).required else m.level := by
  unfold Cfm.raise; dsimp only; split <;> rfl

/-- A publication notice leaves the cause set (R148). -/
@[simp] theorem Cfm.publication_causes (m : Cfm) (n : Nat) : (m.publication n).causes = m.causes := by
  unfold Cfm.publication; (repeat' split) <;> rfl

/-! ## NTX -/

@[simp] theorem State.triggerStatusIf_ntx (s : State) (b : Bool) : (s.triggerStatusIf b).ntx = s.ntx := by
  unfold State.triggerStatusIf; split <;> rfl

@[simp] theorem State.withNtx_ntx (s : State) (n : Ntx) : (s.withNtx n).ntx = n := by simp [State.withNtx]

@[simp] theorem State.enterIdle_ntx (s : State) :
    s.enterIdle.ntx = { s.ntx with state := .idle, symbolEnds := none } := by simp [State.enterIdle]

@[simp] theorem State.enterMuted_ntx (s : State) (raised : Bool) :
    (s.enterMuted raised).ntx =
      { s.ntx with state := .muted, quiet := 0, activity := false, symbolEnds := none } := by
  simp only [State.enterMuted, State.withNtx_ntx]; cases raised <;> simp

@[simp] theorem State.enterMuted_cfm (s : State) (raised : Bool) :
    (s.enterMuted raised).cfm = if raised then s.cfm else s.cfm.raise .clash := by
  simp only [State.enterMuted]; cases raised <;> simp [State.withNtx]

/-! ## DRP, LRG and BCH -/

/-- A recomposition from READY on; before READY nothing changes (R96, R98). -/
theorem State.recompose_drp (s : State) (cutArrives : Bool) : (s.recompose cutArrives).drp =
    if s.isReady then s.drp.recompose s.capsNow (s.capsNow.target s.sre.grant s.cfg.rated) s.cutNow s.psq.arcWarn
      cutArrives else s.drp := by
  simp only [State.recompose]; split <;> rfl

@[simp] theorem State.redraw_drp (s : State) (cutArrives : Bool) :
    (s.redraw cutArrives).drp = (s.recompose cutArrives).drp := by simp [State.redraw]

@[simp] theorem State.redraw_bch (s : State) (cutArrives : Bool) :
    (s.redraw cutArrives).bch = (s.recompose cutArrives).refreshChopper.bch := by simp [State.redraw]

/-- Everything that a recomposition sets besides the episode and its ending, from every state (R98). -/
theorem Drp.recompose_terms (d : Drp) (caps : Caps) (target : Nat) (cut hold cutArrives : Bool) :
    (d.recompose caps target cut hold cutArrives).caps = caps ∧
    (d.recompose caps target cut hold cutArrives).target = target ∧
    (d.recompose caps target cut hold cutArrives).cut = cut ∧
    (d.recompose caps target cut hold cutArrives).hold = hold ∧
    (d.recompose caps target cut hold cutArrives).applied = d.applied ∧
    (d.recompose caps target cut hold cutArrives).stepTimer = d.stepTimer := by
  unfold Drp.recompose
  split
  · next h =>
    simp only [Bool.and_eq_true] at h
    split <;> simp [h.1]
  · split
    · next h =>
      simp only [Bool.and_eq_true] at h
      next hc => cases hd : d.cut <;> simp_all
    · simp

/-- A recomposition does not move A (R98). -/
@[simp] theorem State.recompose_applied (s : State) (cutArrives : Bool) :
    (s.recompose cutArrives).drp.applied = s.drp.applied := by
  rw [State.recompose_drp]; split
  · exact (Drp.recompose_terms ..).2.2.2.2.1
  · rfl

/-- A recomposition leaves the ramp step timer. -/
@[simp] theorem State.recompose_stepTimer (s : State) (cutArrives : Bool) :
    (s.recompose cutArrives).drp.stepTimer = s.drp.stepTimer := by
  rw [State.recompose_drp]; split
  · exact (Drp.recompose_terms ..).2.2.2.2.2
  · rfl

/-- The zeroing (R101, R106). -/
@[simp] theorem State.zeroDraw_drp (s : State) : s.zeroDraw.drp = s.drp.zero s.capsNow := by
  simp [State.zeroDraw]

@[simp] theorem Drp.zero_terms (d : Drp) (caps : Caps) :
    (d.zero caps).applied = 0 ∧ (d.zero caps).target = 0 ∧ (d.zero caps).caps = caps ∧
    (d.zero caps).hold = false ∧ (d.zero caps).cut = false ∧ (d.zero caps).episode = none ∧
    (d.zero caps).stepTimer = d.stepTimer := ⟨rfl, rfl, rfl, rfl, rfl, rfl, rfl⟩

/-- The reference after an event that may have changed A (R102, R109). -/
theorem State.handCodeIf_lrg (s : State) (before : Nat) : (s.handCodeIf before).lrg =
    if s.drp.applied = before then s.lrg
    else { s.lrg with pending := some (codeOf s.drp.applied s.cfg.rated) } := by
  unfold State.handCodeIf; split <;> rfl

/-- The reference after the zeroing (R101, R102). -/
theorem State.zeroDraw_lrg (s : State) : s.zeroDraw.lrg =
    if s.drp.applied = 0 then s.lrg else { s.lrg with pending := some (codeOf 0 s.cfg.rated) } := by
  by_cases h : s.drp.applied = 0
  · simp [State.zeroDraw, State.handCodeIf_lrg, h]
  · simp [State.zeroDraw, State.handCodeIf_lrg, h, Ne.symm h, State.cfg]

/-- BCH after an event at one of its inputs (R85, R93). -/
theorem State.refreshChopper_bch (s : State) : s.refreshChopper.bch =
    let pair := inForce s.psq.state s.sgm.cut s.sre.regen s.sre.chopper
    let b := { s.bch with regenInForce := pair.1, chopperInForce := pair.2 }
    if s.psq.state.closed then { b with running := true } else b.stop := by
  simp only [State.refreshChopper]; split <;> rfl

/-! ## PSQ -/

@[simp] theorem State.triggerStatusIf_psq (s : State) (b : Bool) : (s.triggerStatusIf b).psq = s.psq := by
  unfold State.triggerStatusIf; split <;> rfl

/-- PSQ after an entry to a state (R114, R115). -/
@[simp] theorem State.enterPsq_psq (s : State) (st : PsqState) :
    (s.enterPsq st).psq = s.psq.enter st s.cfg s.now := by
  simp only [State.enterPsq]; split <;> simp

/-- DRP after an entry to a state: a recomposition, or the zeroing (R98, R101). -/
theorem State.enterPsq_drp (s : State) (st : PsqState) : (s.enterPsq st).drp =
    if st.closed then
      ({ s with psq := s.psq.enter st s.cfg s.now }.recompose (st == PsqState.cutting)).drp
    else s.drp.zero { s with psq := s.psq.enter st s.cfg s.now }.capsNow := by
  simp only [State.enterPsq, State.triggerStatusIf, State.refreshChopper_frame]
  by_cases hst : st = s.psq.state <;> split <;>
    simp only [hst, ne_eq, not_true_eq_false, not_false_eq_true, decide_true, decide_false, if_true,
      State.zeroDraw_drp, State.recompose_drp, State.triggerStatus] <;> rfl

/-- A at an entry to a state: 0 where the contactor is open, as it was otherwise (R101). -/
@[simp] theorem State.enterPsq_applied (s : State) (st : PsqState) :
    (s.enterPsq st).drp.applied = if st.closed then s.drp.applied else 0 := by
  rw [State.enterPsq_drp]; split <;> simp

/-- DLK after a conditional STATUS trigger (R163). -/
@[simp] theorem State.triggerStatusIf_dlk (s : State) (b : Bool) :
    (s.triggerStatusIf b).dlk = { s.dlk with statusPending := s.dlk.statusPending || b } := by
  unfold State.triggerStatusIf; cases b <;> simp [State.triggerStatus]

/-- DLK after an entry to a state: a change of the state is a STATUS trigger (R117, R163). -/
@[simp] theorem State.enterPsq_dlk (s : State) (st : PsqState) : (s.enterPsq st).dlk =
    { s.dlk with statusPending := s.dlk.statusPending || decide (st ≠ s.psq.state) } := by
  simp only [State.enterPsq]; split <;> simp

/-- An entry to a state leaves the ramp step timer. -/
@[simp] theorem State.enterPsq_stepTimer (s : State) (st : PsqState) :
    (s.enterPsq st).drp.stepTimer = s.drp.stepTimer := by
  rw [State.enterPsq_drp]; split <;> simp

/-- BCH after an entry to a state (R85, R93). -/
theorem State.enterPsq_bch (s : State) (st : PsqState) : (s.enterPsq st).bch =
    let pair := inForce st s.sgm.cut s.sre.regen s.sre.chopper
    let b := { s.bch with regenInForce := pair.1, chopperInForce := pair.2 }
    if st.closed then { b with running := true } else b.stop := by
  simp only [State.enterPsq]
  by_cases hc : st.closed = true <;> simp [hc, State.refreshChopper_bch, Psq.enter]

/-- LRG after an entry to a state: the code of 0 becomes pending where the entry zeroes A (R101, R102). -/
theorem State.enterPsq_lrg (s : State) (st : PsqState) : (s.enterPsq st).lrg =
    if st.closed = true ∨ s.drp.applied = 0 then s.lrg
    else { s.lrg with pending := some (codeOf 0 s.cfg.rated) } := by
  simp only [State.enterPsq, State.refreshChopper_frame]
  split
  · next hc => simp [hc]
  · next hc => simp [hc, State.zeroDraw_lrg, State.cfg]

/-- A condition that every entry to a state makes true holds after an entry to CUTTING (R122). -/
theorem State.enterCutting_of {P : State → Prop} (enter : ∀ (u : State) (st : PsqState), P (u.enterPsq st))
    (s : State) : P s.enterCutting := by
  simp only [State.enterCutting]; split <;> exact enter _ _

/-- A condition that every entry to a state makes true holds after an entry to RETRACTING (R125). -/
theorem State.enterRetracting_of {P : State → Prop} (enter : ∀ (u : State) (st : PsqState), P (u.enterPsq st))
    (s : State) : P s.enterRetracting := by
  simp only [State.enterRetracting]; split <;> exact enter _ _

/-! ## MSU's conversions (R71, R72) -/

/-- A voltage conversion is in flight. -/
theorem AdcState.isVoltage_iff (a : AdcState) : a.isVoltage = true ↔ ∃ since, a = .voltage since := by
  cases a <;> simp [AdcState.isVoltage]

/-- A current conversion is in flight. -/
theorem AdcState.isCurrent_iff (a : AdcState) : a.isCurrent = true ↔ ∃ since, a = .current since := by
  cases a <;> simp [AdcState.isCurrent]

/-- A conversion has run as long as it can after 327 crystal cycles (R71). -/
theorem State.conversionRunsOut_iff (s : State) : s.conversionRunsOut = true ↔
    ∃ since, s.msu.adc.since = some since ∧ 327 ≤ (s.instant - since).toNat := by
  unfold State.conversionRunsOut conversionCycles
  cases s.msu.adc.since <;> simp [-BitVec.toNat_sub]

/-- A voltage sample starts the current conversion of its pair (R71). -/
@[simp] theorem State.takeVoltage_adc (s : State) (volts : Nat) :
    (s.takeVoltage volts).msu.adc = .current s.instant := by
  simp only [State.takeVoltage]
  split <;> simp

/-- A current sample ends its pair (R71). -/
@[simp] theorem State.takeCurrent_adc (s : State) (current : Int) : (s.takeCurrent current).msu.adc = .idle := by
  simp only [State.takeCurrent, State.judgeRaised, State.judgeClear]
  repeat' split
  all_goals simp

/-! ## DLK -/

/-- The line is idle where no byte is arriving and more than two byte times have passed since the last (R156). -/
theorem RxBuffer.idle_iff (rx : RxBuffer) (now : Instant) : rx.idle now = true ↔
    rx.receiving = false ∧ ∃ e : Instant, rx.lastEnd = some e ∧ 20 * 569 < 8 * (now - e).toNat := by
  unfold RxBuffer.idle; cases rx.receiving <;> cases rx.lastEnd <;> simp

/-- When the stow timer expires: silence is in force and the timer has run out (R159). -/
theorem State.stowExpires_iff (s : State) : s.stowExpires = true ↔
    s.dlk.silence = true ∧ ∃ expiry : Tick, s.dlk.stowTimer = some expiry ∧ reached s.now expiry = true := by
  simp [State.stowExpires, Timer.due_iff]

/-- The stow condition comes to stand only with silence in force (R159). -/
theorem State.standStow_silence {s : State} (h : s.stowExpires = true) :
    s.standStow.dlk.stow = true ∧ s.standStow.dlk.silence = true ∧ s.standStow.dlk.stowTimer = none := by
  have silent := ((State.stowExpires_iff s).mp h).1
  simp only [State.standStow, State.enterCutting]
  repeat' split
  all_goals simp [State.setSticky, silent]

/-- When a frame of one row ends (R156). -/
theorem State.frameEnds_iff (s : State) (row : FrameRow) : s.frameEnds row = true ↔
    s.dlk.rx.bytes ≠ [] ∧ s.dlk.rx.idle s.instant = true ∧ s.dlk.rx.row = row := by
  simp [State.frameEnds, and_assoc]

/-- A buffer that holds no sound frame is FRAME_DROPPED's (R157, log entry 13). -/
theorem RxBuffer.row_of_no_frame {rx : RxBuffer} (h : rx.frame = none) : rx.row = .dropped := by
  simp [RxBuffer.row, h]

/-- Everything that a byte's end does to the buffer (R156). -/
theorem RxBuffer.push_eq (rx : RxBuffer) (byte : Byte) (framingError : Bool) (now : Instant) :
    rx.push byte framingError now =
      { bytes := if rx.bytes.length < 16 then rx.bytes ++ [byte] else rx.bytes,
        overlong := rx.overlong || decide (16 ≤ rx.bytes.length),
        byteError := rx.byteError || framingError, receiving := false, lastEnd := some now } := by
  unfold RxBuffer.push
  by_cases h : rx.bytes.length < 16 <;> simp [h, ← Nat.not_lt]

@[simp] theorem RxBuffer.take_begins (rx : RxBuffer) (byte : Byte) (now : Instant) :
    rx.take byte now .begins = { rx with receiving := true } := rfl
@[simp] theorem RxBuffer.take_ends (rx : RxBuffer) (byte : Byte) (now : Instant) (framingError : Bool) :
    rx.take byte now (.ends framingError) = rx.push byte framingError now := rfl

/-- Everything that a frame end can do (R156, R157): the buffer is emptied after the frame was dropped, refused, or,
from READY on or for a QUERY, taken. -/
theorem State.examine_cases (s : State) (act : List Byte → State → State) :
    (s.dlk.rx.frame = none ∧ s.examine act = s.dropFrame.clearBuffer) ∨
    ∃ ty payload, s.dlk.rx.frame = some (ty, payload) ∧
      ((∃ r, s.frameRefusal ty payload = some r ∧ s.examine act = (s.refuse ty r).clearBuffer) ∨
       ((s.isReady = true ∨ ty = typeQuery) ∧ requiredLength ty = some payload.length ∧
         s.examine act = (act payload s).clearBuffer)) := by
  unfold State.examine
  cases hf : s.dlk.rx.frame with
  | none => exact .inl ⟨rfl, rfl⟩
  | some p =>
    obtain ⟨ty, payload⟩ := p
    refine .inr ⟨ty, payload, rfl, ?_⟩
    cases hr : s.frameRefusal ty payload with
    | some r => exact .inl ⟨r, rfl, by simp [hr]⟩
    | none =>
      refine .inr ?_
      unfold State.frameRefusal at hr
      split at hr
      · exact absurd hr (by simp)
      · next hn =>
        split at hr
        · exact absurd hr (by simp)
        · next n hl =>
          split at hr
          · next hlen =>
            refine ⟨?_, by rw [hl, hlen], ?_⟩
            · simp only [Bool.and_eq_true, Bool.not_eq_true', bne_iff_ne, not_and, Decidable.not_not] at hn
              cases hR : s.isReady
              · exact .inr (hn hR)
              · exact .inl rfl
            · simp only [State.frameRefusal, hl, hlen]
              split
              · next r hrr => split at hrr <;> simp_all
              · rfl
          · exact absurd hr (by simp)

/-- A frame end keeps a condition that the drop, the refusal and the frame's effect keep (R157). -/
theorem State.examine_keeps {P : State → Prop} {s : State} {act : List Byte → State → State}
    (clear : ∀ u, P u → P u.clearBuffer) (drop : P s.dropFrame) (refuse : ∀ ty r, P (s.refuse ty r))
    (taken : ∀ payload, P (act payload s)) : P (s.examine act) := by
  rcases State.examine_cases s act with ⟨-, h⟩ | ⟨ty, payload, -, ⟨r, -, h⟩ | ⟨-, -, h⟩⟩ <;> rw [h]
  · exact clear _ drop
  · exact clear _ (refuse ty r)
  · exact clear _ (taken payload)

end Sys2Proof.Machine
end

