-- ==== Sys2Proof/Laws/Effects.lean ====
section
/-! SUPPORT. Each command as the event that it is: when it occurs, its effect, and the blocks that an effect leaves. -/

namespace Sys2Proof.Machine

/-- The two resets that the supervisor holds, and their end (R170): the commands whose meaning is no `event`. -/
def holdsReset : Instr → Bool
  | .powerOn | .pinReset _ | .resetEnd _ => true
  | _ => false

/-- When each command's event occurs. -/
def occursAt (c : Instr) (s : State) : Bool :=
  match c with
  | .powerOn | .pinReset _ | .resetEnd _ => false
  | .spiReadCompletion block => s.cfl.loader == .loading && s.cfl.reading && block.length == blockLength
  | .loaderRetryExpiry => s.cfl.loader == .loading && s.cfl.retryTimer.due s.now
  | .ready => s.cfl.loader == .loading && s.cfl.image.isSome && s.cfl.readyAt.due s.now
  | .restartTimerStart => s.isReady && s.startAt.due s.now
  | .noticeTimerExpiry => s.ntx.noticeTimer.due s.now
  | .noticeCompletion => s.ntx.state == .sending && s.ntx.symbolIndex == 79 && s.ntx.symbolEnds.due s.now
  | .syncEntry ch => s.takesDecision ch && (s.crx.contexts[ch]).state == .hunt &&
      decide (6 ≤ runAfter s.crx.contexts[ch] ((s.crx.contexts[ch]).window.getLast?.getD .silent).other)
  | .frameAbandon ch => s.takesDecision ch && (s.crx.contexts[ch]).state == .body
  | .noticeReceived ch _ =>
      s.takesDecision ch && (s.crx.contexts[ch]).state == .body && (s.crx.contexts[ch]).body.length == 63
  | .sweep => s.ptb.sweepTimer.due s.now
  | .roundCompletion => s.sre.round.isSome
  | .conversionPairStart => s.startsPair
  | .voltageConversionCompletion _ => s.msu.adc.isVoltage
  | .currentConversionCompletion _ => s.msu.adc.isCurrent
  | .chopperPeriodStart => s.bch.running && s.tmb.onTick
  | .groupStart => s.isReady && s.tmb.onTap 1024
  | .rampStep => s.drp.stepTimer.due s.now
  | .contactLoss => s.onFilterEdge .contact && s.psq.contact.accepts false
  | .contactReturn => s.onFilterEdge .contact && s.psq.contact.accepts true
  | .downLimit => s.onFilterEdge .downLimit && s.psq.downLimit.accepts true
  | .raiseTimeout => s.timerExpires .raising
  | .prechargeExpiry => s.timerExpires .precharge
  | .reacquireExpiry => s.timerExpires .dropout
  | .coastExpiry => s.timerExpires .gapCoast
  | .dischargeExpiry => s.timerExpires .discharge
  | .retractTimeout => s.timerExpires .retracting
  | .ringAdvance => s.psq.ringTimer.due s.now
  | .pilotWindowEnd _ _ => s.crx.pilotEnd.due s.now
  | .rejoinExpiry => s.sgm.rejoinTimer.due s.now
  | .countdownRunOut => s.countdownOut
  | .graceExpiry => s.sgm.graceTimer.due s.now
  | .demand => s.frameEnds .demand
  | .pantoRaise => s.frameEnds .pantoRaise
  | .pantoLower => s.frameEnds .pantoLower
  | .gap => s.frameEnds .gap
  | .query => s.frameEnds .query
  | .restart _ => s.frameEnds .restart
  | .frameDropped => s.frameEnds .dropped
  | .silenceTimerExpiry => s.dlk.silenceTimer.due s.now
  | .stowTimerExpiry => s.stowExpires
  | .limitTimerExpiry => s.dlk.limitTimer.due s.now
  | .transmitterFree => s.sendingEnds
  | .symbolStrobe => s.ntx.state == .sending && decide (s.ntx.symbolIndex < 79) && s.ntx.symbolEnds.due s.now
  | .symbolBoundary change => (s.crx.contexts[change.channel]).state == .hunt && contentChanges change
  | .symbolDecision ch _ _ => s.takesDecision ch
  | .filterEdge input _ => s.onFilterEdge input
  | .contactStrobe _ => s.psq.state.closed && s.tmb.onTap 512
  | .chopperCount =>
      s.bch.running && s.bch.inPeriod && decide (s.bch.count < 255) && s.tmb.onTap 32 && !s.tmb.onTick
  | .pwmCount => s.isReady && !s.tmb.onTap 1024
  | .byteReceived _ _ => true
  | .pantoBadValue => s.frameEnds .pantoBadValue

/-- What each command does where its event occurs, before the transmitter's choice. -/
def effectOf (c : Instr) (s : State) : State :=
  match c with
  | .powerOn | .pinReset _ | .resetEnd _ => s
  | .spiReadCompletion block => s.judgeBlock block
  | .loaderRetryExpiry => { s with cfl := { s.cfl with retryTimer := none, reading := true } }
  | .ready => s.enterReady
  | .restartTimerStart => { s with startAt := none }.startTimers
  | .noticeTimerExpiry => s.noticeExpiry
  | .noticeCompletion => s.completeNotice
  | .syncEntry ch => s.decideSymbol ch ((s.crx.contexts[ch]).window.getLast?.getD .silent).other
  | .frameAbandon ch => s.decideSymbol ch .silent
  | .noticeReceived ch mark => s.decideSymbol ch (.ofBit mark)
  | .sweep => s.sweepTable
  | .roundCompletion => s.roundEnds
  | .conversionPairStart => { s with msu := { s.msu with adc := .voltage s.instant, runsFrom := none } }
  | .voltageConversionCompletion code => s.takeVoltage (voltsOfCode code)
  | .currentConversionCompletion code => s.takeCurrent (currentOfCode code)
  | .chopperPeriodStart => { s with bch := s.bch.startPeriod s.cfg.chopperRating s.cfg.deadTime }
  | .groupStart => { s with lrg := s.lrg.startGroup }
  | .rampStep => s.rampStep
  | .contactLoss => s.contactEdge false
  | .contactReturn => s.contactEdge true
  | .downLimit => s.downLimitEdge true
  | .raiseTimeout => s.raiseTimedOut
  | .prechargeExpiry => s.prechargeDone
  | .reacquireExpiry => s.reacquireTimedOut
  | .coastExpiry => s.enterPsq .discharge
  | .dischargeExpiry => s.enterRetracting
  | .retractTimeout => s.retractTimedOut
  | .ringAdvance => s.ringAdvances
  | .pilotWindowEnd aboveThroughout meanMilliHz => s.windowEnds (pilotCodeOf aboveThroughout meanMilliHz)
  | .rejoinExpiry => s.endRejoin
  | .countdownRunOut => s.countdownRunsOut
  | .graceExpiry => s.falseGap
  | .demand => s.examine State.demandFrame
  | .pantoRaise => s.examine fun _ u => u.raiseFrame
  | .pantoLower => s.examine fun _ u => u.lowerFrame
  | .gap => s.examine State.gapTaken
  | .query => s.examine fun _ u => u.triggerStatus
  | .restart raw => s.examine fun _ u => u.restartFrame raw
  | .frameDropped => s.examine fun _ u => u
  | .silenceTimerExpiry => s.beginSilence
  | .stowTimerExpiry => s.standStow
  | .limitTimerExpiry => s.composeLimit
  | .transmitterFree => s.endSending
  | .symbolStrobe => s.nextSymbol
  | .symbolBoundary change => s.takeBoundary change.channel
  | .symbolDecision ch steady _ => s.decideSymbol ch (.ofComponents ch steady)
  | .filterEdge input level => s.filterEdge input level
  | .contactStrobe contact => { s with psq := s.psq.contactSample contact s.cfg.bounceMax }
  | .chopperCount => { s with bch := s.bch.nextCount s.cfg.deadTime }
  | .pwmCount => { s with lrg := s.lrg.nextCount }
  | .byteReceived byte moment => { s with dlk := { s.dlk with rx := s.dlk.rx.take byte s.instant moment } }
  | .pantoBadValue => s.examine fun _ u => u.refuse typePanto .badValue

/-- A command other than the two held resets and their end is an event. -/
theorem exec_eq_event (c : Instr) (s : State) (h : holdsReset c = false) :
    exec c s = s.event (occursAt c s) (effectOf c) := by
  cases c <;> first | rfl | exact absurd h (by simp [holdsReset])

/-- Where its event occurs outside a reset, a command answers its effect after the transmitter's choice. -/
theorem exec_of_occurs {c : Instr} {s : State} (h : holdsReset c = false) (hh : s.held = false)
    (ho : occursAt c s = true) : exec c s = .next (effectOf c s).settle := by
  rw [exec_eq_event c s h, State.event_of_occurs hh ho]

/-- Everything that a command can answer. -/
theorem exec_cases {c : Instr} {s t : State} (hx : exec c s = .next t) :
    t = s ∨ (holdsReset c = true) ∨
      (holdsReset c = false ∧ s.held = false ∧ occursAt c s = true ∧ t = (effectOf c s).settle) := by
  cases hr : holdsReset c with
  | true => exact .inr (.inl rfl)
  | false =>
    rw [exec_eq_event c s hr] at hx
    rcases State.event_cases hx with h | ⟨ho, hh, ht⟩
    · exact .inl h
    · exact .inr (.inr ⟨rfl, hh, ho, ht⟩)

/-! ## What an effect leaves -/

/-- What a RESTART frame leaves as it was, taken or refused (R160, R170). -/
@[simp] theorem State.restartFrame_frame (s : State) (raw : RawInputs) :
    (s.restartFrame raw).held = s.held ∧ (s.restartFrame raw).tmb = s.tmb ∧ (s.restartFrame raw).cfl = s.cfl ∧
    (s.restartFrame raw).fresh = s.fresh ∧ (s.restartFrame raw).pending = s.pending ∧
    (s.restartFrame raw).now = s.now ∧ (s.restartFrame raw).cfg = s.cfg ∧
    (s.restartFrame raw).isReady = s.isReady := by
  and_intros <;> (simp only [State.restartFrame]; split <;> simp [State.restarted, State.now, State.cfg, State.isReady])


/-- No command's effect changes whether a reset is held. -/
@[simp] theorem effectOf_held (c : Instr) (s : State) : (effectOf c s).held = s.held := by
  cases c
  all_goals first
    | exact State.examine_keeps (P := fun u => u.held = s.held) (fun u hu => by simpa using hu) (by simp) (by simp) (by simp)
    | simp [effectOf]

/-- No command's effect changes the time base. -/
@[simp] theorem effectOf_tmb (c : Instr) (s : State) : (effectOf c s).tmb = s.tmb := by
  cases c
  all_goals first
    | exact State.examine_keeps (P := fun u => u.tmb = s.tmb) (fun u hu => by simpa using hu) (by simp) (by simp) (by simp)
    | simp [effectOf]

/-- No command's effect changes the queue. -/
@[simp] theorem effectOf_pending (c : Instr) (s : State) : (effectOf c s).pending = s.pending := by
  cases c
  all_goals first
    | exact State.examine_keeps (P := fun u => u.pending = s.pending) (fun u hu => by simpa using hu) (by simp) (by simp) (by simp)
    | simp [effectOf]

/-- The commands whose effect may change a RESTART's strobe. -/
def touchesStartAt : Instr → Bool
  | .restartTimerStart | .restart _ => true
  | _ => false

/-- Every other command leaves a RESTART's strobe as it was. -/
theorem effectOf_startAt {c : Instr} {s : State} (h : touchesStartAt c = false) : (effectOf c s).startAt = s.startAt := by
  cases c
  all_goals first
    | exact Bool.noConfusion h
    | exact State.examine_keeps (P := fun u => u.startAt = s.startAt) (fun u hu => by simpa using hu) (by simp) (by simp) (by simp)
    | simp [effectOf]

/-- The commands whose effect may change CFL. -/
def touchesCfl : Instr → Bool
  | .spiReadCompletion _ | .loaderRetryExpiry | .ready => true
  | _ => false

/-- Every other command leaves CFL as it was. -/
theorem effectOf_cfl {c : Instr} {s : State} (h : touchesCfl c = false) : (effectOf c s).cfl = s.cfl := by
  cases c
  all_goals first
    | exact Bool.noConfusion h
    | exact State.examine_keeps (P := fun u => u.cfl = s.cfl) (fun u hu => by simpa using hu) (by simp) (by simp) (by simp)
    | simp [effectOf]

/-- The commands whose effect may change CRX. -/
def touchesCrx : Instr → Bool
  | .restartTimerStart | .ready | .symbolBoundary _ | .symbolDecision _ _ _ | .syncEntry _ | .frameAbandon _
  | .noticeReceived _ _ | .pilotWindowEnd _ _ | .restart _ => true
  | _ => false

/-- Every other command leaves CRX as it was. -/
theorem effectOf_crx {c : Instr} {s : State} (h : touchesCrx c = false) : (effectOf c s).crx = s.crx := by
  cases c
  all_goals first
    | exact Bool.noConfusion h
    | exact State.examine_keeps (P := fun u => u.crx = s.crx) (fun u hu => by simpa using hu) (by simp) (by simp) (by simp)
    | simp [effectOf]

/-- The commands whose effect may change NTX. -/
def touchesNtx : Instr → Bool
  | .restartTimerStart | .ready | .noticeTimerExpiry | .noticeCompletion | .symbolStrobe
  | .symbolDecision _ _ _ | .syncEntry _ | .frameAbandon _ | .noticeReceived _ _ | .contactLoss
  | .filterEdge _ _ | .restart _ | .contactReturn => true
  | _ => false

/-- Every other command leaves NTX as it was. -/
theorem effectOf_ntx {c : Instr} {s : State} (h : touchesNtx c = false) : (effectOf c s).ntx = s.ntx := by
  cases c
  all_goals first
    | exact Bool.noConfusion h
    | exact State.examine_keeps (P := fun u => u.ntx = s.ntx) (fun u hu => by simpa using hu) (by simp) (by simp) (by simp)
    | simp [effectOf]

/-- The commands whose effect may change PTB. -/
def touchesPtb : Instr → Bool
  | .restartTimerStart | .ready | .symbolDecision _ _ _ | .syncEntry _ | .frameAbandon _ | .noticeReceived _ _
  | .sweep | .pilotWindowEnd _ _ | .restart _ => true
  | _ => false

/-- Every other command leaves PTB as it was. -/
theorem effectOf_ptb {c : Instr} {s : State} (h : touchesPtb c = false) : (effectOf c s).ptb = s.ptb := by
  cases c
  all_goals first
    | exact Bool.noConfusion h
    | exact State.examine_keeps (P := fun u => u.ptb = s.ptb) (fun u hu => by simpa using hu) (by simp) (by simp) (by simp)
    | simp [effectOf]

/-- The commands whose effect may change SRE. -/
def touchesSre : Instr → Bool
  | .noticeTimerExpiry | .roundCompletion | .restart _ => true
  | _ => false

/-- Every other command leaves SRE as it was. -/
theorem effectOf_sre {c : Instr} {s : State} (h : touchesSre c = false) : (effectOf c s).sre = s.sre := by
  cases c
  all_goals first
    | exact Bool.noConfusion h
    | exact State.examine_keeps (P := fun u => u.sre = s.sre) (fun u hu => by simpa using hu) (by simp) (by simp) (by simp)
    | simp [effectOf]

/-- The commands whose effect may change CFM. -/
def touchesCfm : Instr → Bool
  | .noticeTimerExpiry | .noticeCompletion | .symbolDecision _ _ _ | .syncEntry _ | .frameAbandon _
  | .contactLoss | .contactReturn | .filterEdge _ _ | .noticeReceived _ _ | .roundCompletion
  | .currentConversionCompletion _ | .pilotWindowEnd _ _
  | .rejoinExpiry | .restart _ => true
  | _ => false

/-- Every other command leaves CFM as it was. -/
theorem effectOf_cfm {c : Instr} {s : State} (h : touchesCfm c = false) : (effectOf c s).cfm = s.cfm := by
  cases c
  all_goals first
    | exact Bool.noConfusion h
    | exact State.examine_keeps (P := fun u => u.cfm = s.cfm) (fun u hu => by simpa using hu) (by simp) (by simp) (by simp)
    | simp [effectOf]

/-- The commands whose effect may change MSU. -/
def touchesMsu : Instr → Bool
  | .ready | .conversionPairStart | .voltageConversionCompletion _ | .currentConversionCompletion _ | .restart _ => true
  | _ => false

/-- Every other command leaves MSU as it was. -/
theorem effectOf_msu {c : Instr} {s : State} (h : touchesMsu c = false) : (effectOf c s).msu = s.msu := by
  cases c
  all_goals first
    | exact Bool.noConfusion h
    | exact State.examine_keeps (P := fun u => u.msu = s.msu) (fun u hu => by simpa using hu) (by simp) (by simp) (by simp)
    | simp [effectOf]

/-- The commands whose effect may change DRP. -/
def touchesDrp : Instr → Bool
  | .restartTimerStart | .noticeTimerExpiry | .roundCompletion | .voltageConversionCompletion _
  | .pilotWindowEnd _ _ | .countdownRunOut | .graceExpiry | .demand | .gap | .silenceTimerExpiry | .ready
  | .rampStep | .contactLoss | .contactReturn | .downLimit | .filterEdge _ _ | .raiseTimeout | .prechargeExpiry
  | .reacquireExpiry | .coastExpiry | .dischargeExpiry | .retractTimeout | .ringAdvance | .pantoRaise
  | .pantoLower | .restart _ | .stowTimerExpiry => true
  | _ => false

/-- Every other command leaves DRP as it was. -/
theorem effectOf_drp {c : Instr} {s : State} (h : touchesDrp c = false) : (effectOf c s).drp = s.drp := by
  cases c
  all_goals first
    | exact Bool.noConfusion h
    | exact State.examine_keeps (P := fun u => u.drp = s.drp) (fun u hu => by simpa using hu) (by simp) (by simp) (by simp)
    | simp [effectOf]

/-- The commands whose effect may change LRG. -/
def touchesLrg : Instr → Bool
  | .groupStart | .pwmCount | .ready | .rampStep | .contactLoss | .contactReturn | .downLimit | .filterEdge _ _
  | .raiseTimeout | .prechargeExpiry | .reacquireExpiry | .coastExpiry | .dischargeExpiry | .retractTimeout
  | .ringAdvance | .pantoRaise | .pantoLower | .restart _ | .stowTimerExpiry => true
  | _ => false

/-- Every other command leaves LRG as it was. -/
theorem effectOf_lrg {c : Instr} {s : State} (h : touchesLrg c = false) : (effectOf c s).lrg = s.lrg := by
  cases c
  all_goals first
    | exact Bool.noConfusion h
    | exact State.examine_keeps (P := fun u => u.lrg = s.lrg) (fun u hu => by simpa using hu) (by simp) (by simp) (by simp)
    | simp [effectOf]

/-- The commands whose effect may change BCH. -/
def touchesBch : Instr → Bool
  | .chopperPeriodStart | .chopperCount | .noticeTimerExpiry | .roundCompletion | .pilotWindowEnd _ _
  | .countdownRunOut | .graceExpiry | .gap | .ready | .rampStep | .contactLoss | .contactReturn | .downLimit
  | .filterEdge _ _ | .raiseTimeout | .prechargeExpiry | .reacquireExpiry | .coastExpiry | .dischargeExpiry
  | .retractTimeout | .ringAdvance | .pantoRaise | .pantoLower | .restart _ | .stowTimerExpiry => true
  | _ => false

/-- Every other command leaves BCH as it was. -/
theorem effectOf_bch {c : Instr} {s : State} (h : touchesBch c = false) : (effectOf c s).bch = s.bch := by
  cases c
  all_goals first
    | exact Bool.noConfusion h
    | exact State.examine_keeps (P := fun u => u.bch = s.bch) (fun u hu => by simpa using hu) (by simp) (by simp) (by simp)
    | simp [effectOf]

/-- The commands whose effect may change PSQ. -/
def touchesPsq : Instr → Bool
  | .spiReadCompletion _ | .contactStrobe _ | .ready | .rampStep | .contactLoss | .contactReturn | .downLimit
  | .filterEdge _ _ | .raiseTimeout | .prechargeExpiry | .reacquireExpiry | .coastExpiry | .dischargeExpiry
  | .retractTimeout | .ringAdvance | .pantoRaise | .pantoLower | .restart _ | .stowTimerExpiry => true
  | _ => false

/-- Every other command leaves PSQ as it was. -/
theorem effectOf_psq {c : Instr} {s : State} (h : touchesPsq c = false) : (effectOf c s).psq = s.psq := by
  cases c
  all_goals first
    | exact Bool.noConfusion h
    | exact State.examine_keeps (P := fun u => u.psq = s.psq) (fun u hu => by simpa using hu) (by simp) (by simp) (by simp)
    | simp [effectOf]

/-- The commands whose effect may change SGM. -/
def touchesSgm : Instr → Bool
  | .rampStep | .contactLoss | .contactReturn | .filterEdge _ _ | .pilotWindowEnd _ _ | .rejoinExpiry
  | .countdownRunOut | .graceExpiry | .gap | .restart _ => true
  | _ => false

/-- Every other command leaves SGM as it was. -/
theorem effectOf_sgm {c : Instr} {s : State} (h : touchesSgm c = false) : (effectOf c s).sgm = s.sgm := by
  cases c
  all_goals first
    | exact Bool.noConfusion h
    | exact State.examine_keeps (P := fun u => u.sgm = s.sgm) (fun u hu => by simpa using hu) (by simp) (by simp) (by simp)
    | simp [effectOf]

/-- The commands whose effect may change the model's counter. -/
def touchesFresh : Instr → Bool
  | .noticeTimerExpiry | .symbolDecision _ _ _ | .syncEntry _ | .frameAbandon _ | .noticeReceived _ _ => true
  | _ => false

/-- Every other command leaves the model's counter as it was. -/
theorem effectOf_fresh {c : Instr} {s : State} (h : touchesFresh c = false) : (effectOf c s).fresh = s.fresh := by
  cases c
  all_goals first
    | exact Bool.noConfusion h
    | exact State.examine_keeps (P := fun u => u.fresh = s.fresh) (fun u hu => by simpa using hu) (by simp) (by simp) (by simp)
    | simp [effectOf]

end Sys2Proof.Machine
end

