-- ==== Sys2Proof/Laws/State.lean ====
section
/-! SUPPORT. What each update of the state writes, one lemma per field: the updates of Machine/Ops.lean, the reset
values of Machine/State.lean, and the block updates of the shared operations. What they leave is in StateOps.lean. -/

namespace Sys2Proof.Machine

/-! ## Updates of the state -/

@[simp] theorem State.withPsq_psq (s : State) (p : Psq) : (s.withPsq p).psq = p := rfl
@[simp] theorem State.withSgm_sgm (s : State) (g : Sgm) : (s.withSgm g).sgm = g := rfl
@[simp] theorem State.withTmb_tmb (s : State) (t : Tmb) : (s.withTmb t).tmb = t := rfl
@[simp] theorem State.withTmb_now (s : State) (t : Tmb) : (s.withTmb t).now = t.tick := rfl
@[simp] theorem State.withTmb_instant (s : State) (t : Tmb) : (s.withTmb t).instant = t.instant := rfl
@[simp] theorem State.drawn_fresh (s : State) : s.drawn.fresh = s.fresh + 1 := rfl
@[simp] theorem State.triggerStatus_statusPending (s : State) : s.triggerStatus.dlk.statusPending = true := rfl
@[simp] theorem State.triggerStatus_sticky (s : State) : s.triggerStatus.dlk.sticky = s.dlk.sticky := rfl
@[simp] theorem State.triggerStatus_own (s : State) : s.triggerStatus.dlk.own = s.dlk.own := rfl
@[simp] theorem State.triggerStatus_silence (s : State) : s.triggerStatus.dlk.silence = s.dlk.silence := rfl
@[simp] theorem State.triggerStatus_stow (s : State) : s.triggerStatus.dlk.stow = s.dlk.stow := rfl
@[simp] theorem State.setSticky_sticky (s : State) (f : StickyFault) :
    (s.setSticky f).dlk.sticky = s.dlk.sticky.put f := rfl
@[simp] theorem State.setSticky_statusPending (s : State) (f : StickyFault) :
    (s.setSticky f).dlk.statusPending = s.dlk.statusPending := rfl
@[simp] theorem State.setSticky_own (s : State) (f : StickyFault) : (s.setSticky f).dlk.own = s.dlk.own := rfl
@[simp] theorem State.setSticky_silence (s : State) (f : StickyFault) :
    (s.setSticky f).dlk.silence = s.dlk.silence := rfl
@[simp] theorem State.setSticky_stow (s : State) (f : StickyFault) : (s.setSticky f).dlk.stow = s.dlk.stow := rfl

/-! ## The sets of causes and of sticky faults (R146, R164) -/

/-- A sticky fault that is put in a set is there; every other stays as it was (R164). -/
theorem StickySet.has_put (set : StickySet) (f g : StickyFault) :
    (set.put f).has g = (decide (f = g) || set.has g) := by
  cases f <;> cases g <;> rfl

/-- A cause that is set or cleared stands so; every other stays as it was (R146). -/
theorem Causes.has_put (set : Causes) (active : Bool) (c d : Cause) :
    (set.put active c).has d = if c = d then active else set.has d := by
  cases c <;> cases d <;> rfl

/-! ## Block updates -/

@[simp] theorem Psq.enter_state (p : Psq) (st : PsqState) (img : Image) (now : Tick) :
    (p.enter st img now).state = st := rfl
@[simp] theorem Psq.enter_contactor (p : Psq) (st : PsqState) (img : Image) (now : Tick) :
    (p.enter st img now).contactor = st.closed := rfl
@[simp] theorem Psq.enter_precharge (p : Psq) (st : PsqState) (img : Image) (now : Tick) :
    (p.enter st img now).precharge = (st == .precharge) := rfl
@[simp] theorem Psq.enter_discharge (p : Psq) (st : PsqState) (img : Image) (now : Tick) :
    (p.enter st img now).discharge = (st == .discharge) := rfl
@[simp] theorem Psq.enter_actuator (p : Psq) (st : PsqState) (img : Image) (now : Tick) :
    (p.enter st img now).actuator = st.actuator := rfl
@[simp] theorem Psq.enter_stateTimer (p : Psq) (st : PsqState) (img : Image) (now : Tick) :
    (p.enter st img now).stateTimer = (st.duration img).bind (Timer.start now) := rfl
@[simp] theorem Psq.enter_contact (p : Psq) (st : PsqState) (img : Image) (now : Tick) :
    (p.enter st img now).contact = p.contact := rfl
@[simp] theorem Psq.enter_upLimit (p : Psq) (st : PsqState) (img : Image) (now : Tick) :
    (p.enter st img now).upLimit = p.upLimit := rfl
@[simp] theorem Psq.enter_downLimit (p : Psq) (st : PsqState) (img : Image) (now : Tick) :
    (p.enter st img now).downLimit = p.downLimit := rfl
@[simp] theorem Psq.enter_ringTimer (p : Psq) (st : PsqState) (img : Image) (now : Tick) :
    (p.enter st img now).ringTimer = p.ringTimer := rfl

@[simp] theorem Drp.zero_applied (d : Drp) (caps : Caps) : (d.zero caps).applied = 0 := rfl
@[simp] theorem Drp.zero_target (d : Drp) (caps : Caps) : (d.zero caps).target = 0 := rfl
@[simp] theorem Drp.zero_caps (d : Drp) (caps : Caps) : (d.zero caps).caps = caps := rfl
@[simp] theorem Drp.zero_hold (d : Drp) (caps : Caps) : (d.zero caps).hold = false := rfl
@[simp] theorem Drp.zero_cut (d : Drp) (caps : Caps) : (d.zero caps).cut = false := rfl
@[simp] theorem Drp.zero_episode (d : Drp) (caps : Caps) : (d.zero caps).episode = none := rfl
@[simp] theorem Drp.zero_stepTimer (d : Drp) (caps : Caps) : (d.zero caps).stepTimer = d.stepTimer := rfl

@[simp] theorem Bch.stop_running (b : Bch) : b.stop.running = false := rfl
@[simp] theorem Bch.stop_inPeriod (b : Bch) : b.stop.inPeriod = false := rfl
@[simp] theorem Bch.stop_count (b : Bch) : b.stop.count = 0 := rfl
@[simp] theorem Bch.stop_duty (b : Bch) : b.stop.duty = 0 := rfl
@[simp] theorem Bch.stop_dumpLength (b : Bch) : b.stop.dumpLength = 0 := rfl
@[simp] theorem Bch.stop_dump (b : Bch) : b.stop.dump = false := rfl
@[simp] theorem Bch.stop_clamp (b : Bch) : b.stop.clamp = false := rfl
@[simp] theorem Bch.stop_regenInForce (b : Bch) : b.stop.regenInForce = b.regenInForce := rfl
@[simp] theorem Bch.stop_chopperInForce (b : Bch) : b.stop.chopperInForce = b.chopperInForce := rfl

/-! ## The part while a reset is held -/

@[simp] theorem State.heldInReset_held (c : ResetCause) (n : Nat) (q : List Instr) :
    (State.heldInReset c n q).held = true := rfl
@[simp] theorem State.heldInReset_startAt (c : ResetCause) (n : Nat) (q : List Instr) :
    (State.heldInReset c n q).startAt = none := rfl
@[simp] theorem State.heldInReset_tmb (c : ResetCause) (n : Nat) (q : List Instr) :
    (State.heldInReset c n q).tmb = { tick := 0, phase := 0 } := rfl
@[simp] theorem State.heldInReset_cfl (c : ResetCause) (n : Nat) (q : List Instr) :
    (State.heldInReset c n q).cfl = .atReset := rfl
@[simp] theorem State.heldInReset_crx (c : ResetCause) (n : Nat) (q : List Instr) :
    (State.heldInReset c n q).crx = .atReset := rfl
@[simp] theorem State.heldInReset_ntx (c : ResetCause) (n : Nat) (q : List Instr) :
    (State.heldInReset c n q).ntx = .atReset .off := rfl
@[simp] theorem State.heldInReset_ptb (c : ResetCause) (n : Nat) (q : List Instr) :
    (State.heldInReset c n q).ptb = .atReset := rfl
@[simp] theorem State.heldInReset_sre (c : ResetCause) (n : Nat) (q : List Instr) :
    (State.heldInReset c n q).sre = .atReset := rfl
@[simp] theorem State.heldInReset_cfm (c : ResetCause) (n : Nat) (q : List Instr) :
    (State.heldInReset c n q).cfm = .atReset := rfl
@[simp] theorem State.heldInReset_msu (c : ResetCause) (n : Nat) (q : List Instr) :
    (State.heldInReset c n q).msu = .atReset := rfl
@[simp] theorem State.heldInReset_drp (c : ResetCause) (n : Nat) (q : List Instr) :
    (State.heldInReset c n q).drp = .atReset := rfl
@[simp] theorem State.heldInReset_lrg (c : ResetCause) (n : Nat) (q : List Instr) :
    (State.heldInReset c n q).lrg = .atReset := rfl
@[simp] theorem State.heldInReset_bch (c : ResetCause) (n : Nat) (q : List Instr) :
    (State.heldInReset c n q).bch = .atReset := rfl
@[simp] theorem State.heldInReset_sgm (c : ResetCause) (n : Nat) (q : List Instr) :
    (State.heldInReset c n q).sgm = .atReset := rfl
@[simp] theorem State.heldInReset_dlk (c : ResetCause) (n : Nat) (q : List Instr) :
    (State.heldInReset c n q).dlk = .atReset c := rfl
@[simp] theorem State.heldInReset_fresh (c : ResetCause) (n : Nat) (q : List Instr) :
    (State.heldInReset c n q).fresh = n := rfl
@[simp] theorem State.heldInReset_pending (c : ResetCause) (n : Nat) (q : List Instr) :
    (State.heldInReset c n q).pending = q := rfl

end Sys2Proof.Machine
end

