-- ==== Sys2Proof/Tests/Slice0.lean ====
section
/-! SUPPORT. Tests: the manual's worked figures, one or two facts for each command, and for every statement with
hypotheses a concrete state and operands that meet them. Expected results come from the rule named in each comment,
worked by hand. -/

namespace Sys2Proof.Tests

open Sys2Proof.Machine

/-- A configuration of the recommended kind, with short times and two sections. -/
def image : Image :=
  { stationId := 17, ownChannel := 2, staleLimit := 5, period := 200, sectionCount := 2, guardPercent := 20,
    rated := 200, soloShare := 40, auxDraw := 5, lossyThreshold := 10, recoveryRounds := 4, overdrawMargin := 20,
    voltWindow := 200, vCollapse := 1200, vFloor := 1350, vStart := 1500, vTaper := 1700, vCut := 1900, slewUp := 4,
    slewDown := 10, slewCut := 20, deadTime := 2, chopperRating := 100, bounceMax := 16, contactClock := 4,
    arcWarn := 20, arcTrip := 60, raiseTimeout := 8000, retractTimeout := 8000, prechargeTime := 300,
    reacquireTime := 500, coastMaximum := 10000, dischargeTime := 200, upClock := 16, downClock := 16,
    pilotTimeout := 1000, gapMargin := 500, gapGrace := 3000, silenceTime := 300, stowTime := 2000,
    sections := [{ pilot := 3, capacity := 500, reserve := 50, accept := 80, absorb := 60 },
                 { pilot := 5, capacity := 400, reserve := 40, accept := 70, absorb := 50 }] }

/-- The part in READY at tick 160, stowed, on the tick. -/
def ready : State :=
  { State.reset with
    held := false, tmb := { tick := 160, phase := 0 },
    cfl := { Cfl.atReset with loader := .ready, image := some image },
    ntx := { Ntx.atReset .idle with noticeTimer := some 200 },
    psq := .atReset { contact := false, upLimit := false, downLimit := true } (some 250),
    drp := { Drp.atReset with stepTimer := some 160 }, ptb := { Ptb.atReset with sweepTimer := some 150 },
    dlk := { Dlk.atReset .powerOn with limitTimer := some 160 }, crx := { Crx.atReset with pilotEnd := some 160 } }

/-- A PSQ in a state, its contact and up-limit true and its outputs as R114 gives them. -/
def psqIn (st : PsqState) : Psq :=
  { (Psq.atReset { contact := true, upLimit := true, downLimit := false } (some 250)).enter st image 160 with
    retry := 0 }

/-- The part in a sequencer state, its draw and chopper at rest. -/
def inState (st : PsqState) : State := { ready with psq := psqIn st }

/-- The state that a command answers. -/
def after (c : Instr) (s : State) : State :=
  match exec c s with
  | .next t => t
  | _ => s

/-- Every command answers a next state. -/
theorem answers (c : Instr) (s : State) : exec c s = .next (after c s) := by
  obtain ⟨t, h⟩ := exec_next c s
  simp [after, h]

/-- A receive buffer that holds these bytes, so many crystal cycles after its last stop bit. -/
def receivedAgo (cycles : Instant) (s : State) (bytes : List Byte) : State :=
  { s with dlk := { s.dlk with
    rx := { bytes := bytes, overlong := false, byteError := false, receiving := false,
            lastEnd := some (s.instant - cycles) } } }

/-- A receive buffer that holds these bytes at its frame end: 20 bits of 569 synthesis clocks are 11,380, of which
1,423 crystal cycles of 8 are the first beyond (R156, R166). -/
def received (s : State) (bytes : List Byte) : State := receivedAgo 1423 s bytes

/-- The line is idle there. -/
theorem received_idle (s : State) (bytes : List Byte) : (received s bytes).LineIdle := by
  refine ⟨rfl, s.instant - 1423, rfl, ?_⟩
  show 20 * 569 < 8 * (s.instant - (s.instant - 1423)).toNat
  rw [show s.instant - (s.instant - 1423) = 1423 by bv_omega]
  decide

/-- A component that stays at one frequency, in mHz. -/
def at' (milliHz : Nat) : Component := { lowest := milliHz, highest := milliHz }

/-! ## Worked figures -/

/-- R172: the check of "123456789" is 29B1. -/
theorem test_crc_of_digits : crcOfBytes [0x31, 0x32, 0x33, 0x34, 0x35, 0x36, 0x37, 0x38, 0x39] = 0x29B1#16 := by
  decide +kernel

/-- Channel 0: space 60,000 Hz and mark 62,000 Hz give 546.1 and 528.5 synthesis clocks, rounded (R2, R3). -/
theorem test_half_periods : halfPeriod (spaceTone 0) = 546 ∧ halfPeriod (markTone 0) = 529 := by decide

/-- R73 and R74: code 4,095 is 2,999 V and 399 DU, code 2,047 is -1 DU and code 0 is -400 DU. -/
theorem test_converter_codes : voltsOfCode 4095 = 2999 ∧ voltsOfCode 2048 = 1500 ∧ currentOfCode 4095 = 399 ∧
    currentOfCode 2047 = -1 ∧ currentOfCode 0 = -400 := by decide

/-- R89 to R91: a demand of 39 at a rating of 100 gives 99 counts; with dead time 2, 3 counts are suppressed and 253
saturate. -/
theorem test_duty_and_dump_length : dutyOf 39 100 = 99 ∧ dumpLengthOf 3 2 = 0 ∧ dumpLengthOf 252 2 = 252 ∧
    dumpLengthOf 253 2 = 256 ∧ clampAt 53 2 54 = false ∧ clampAt 53 2 55 = true ∧ clampAt 53 2 253 = true ∧
    clampAt 53 2 254 = false := by decide

/-- R109 and R110: A of 122 in 200 is code 624, and code 562 is high for 141, 141, 140 and 140 counts. -/
theorem test_reference_codes : codeOf 122 200 = 624 ∧ codeOf 200 200 = 1023 ∧
    (List.range 4).map (highCount 562) = [141, 141, 140, 140] := by decide

/-- R133: 2,250 Hz lies in band 3, 1,560 Hz is the last of band 0, and 1,561 Hz lies in none. -/
theorem test_pilot_bands : pilotCodeOf true 2250000 = some 3 ∧ pilotCodeOf true 1560000 = some 0 ∧
    pilotCodeOf true 1561000 = none ∧ pilotCodeOf false 2250000 = none := by decide

/-! ## WellFormed -/

/-- A read of 111 bytes is refused by the check, and one of 112 is not (R167). -/
theorem test_wellFormed_block : (Instr.spiReadCompletion (List.replicate 111 0)).wellFormed = false ∧
    (Instr.spiReadCompletion (List.replicate 112 0)).wellFormed = true := by decide

/-- A component whose lowest frequency lies above its highest is refused by the check (R8). -/
theorem test_wellFormed_component :
    (Instr.symbolDecision 0 [{ lowest := 2, highest := 1 }] []).wellFormed = false ∧
    (Instr.symbolDecision 0 [] [{ lowest := 2, highest := 1 }]).wellFormed = false ∧
    (Instr.symbolDecision 0 [at' 1] [at' 2]).wellFormed = true := by decide

/-- A command whose operand types rule out every ill-formed value is well formed. -/
theorem test_wellFormed_typed : (Instr.symbolBoundary { channel := 15, before := [], after := [60000000] }).wellFormed = true := by decide

/-- The table gives no row any bits, so no word spells a command. -/
theorem test_decode_none : decodeTableWord 8 0 = none ∧ (State.reset.withFetchWord 8 0) = State.reset := by decide

/-- The image of these tests passes the loader's checks (R168). -/
theorem test_image_valid : image.valid = true := by decide

/-! ## Reset, time base and loader -/

/-- StepTakesTheFrontCommand: a command waits with another behind it. -/
theorem witness_step : ∃ t, exec .limitTimerExpiry { ready with pending := [.query] } = .next t ∧
    t.pending = [.query] := ⟨_, rfl, by decide⟩

/-- The part keying a symbol with nothing due and its divider as given. -/
def keying (count half : Nat) : State :=
  { State.reset with held := false, ntx := { Ntx.atReset .sending with
    symbolEnds := some 2, divider := { half := half, count := count, level := false } } }

/-- IdleMomentsRunTheCrystal: READY at tick 160 has due timers; LOADING has none, nor has a notice between two strobes,
its divider short of a toggle and at one. -/
theorem witness_idle : (ready.pending = [] ∧ ready.held = false ∧ ready.dueEvents ≠ []) ∧
    ({ State.reset with held := false } : State).dueEvents = [] ∧
    ((keying 521 529).dueEvents = [] ∧ (keying 521 529).ntx.state = .sending ∧
      ¬(keying 521 529).ntx.divider.count + 8 < (keying 521 529).ntx.divider.half ∧
      (keying 520 529).ntx.divider.count + 8 < (keying 520 529).ntx.divider.half) := by decide

/-- R3: at 529 counts the output toggles and the keyed space tone of channel 0, 546 counts, is taken. -/
theorem test_divider : (keying 521 529).idle.ntx.divider = { half := 546, count := 0, level := true } ∧
    (keying 520 529).idle.ntx.divider = { half := 529, count := 528, level := false } := by decide

/-- R166: 8,192 crystal cycles make a 1 ms tick, and the count wraps. -/
theorem test_tick_wraps : ({ tick := 0xFFFFFFFF, phase := 8191 } : Tmb).advance = { tick := 0, phase := 0 } := by
  decide

/-- HeldResetTakesOnlyResets and PowerAndPinResets: a held POWER_ON reset, and a command that is no reset. -/
theorem witness_held : State.reset.held = true ∧ State.reset.dlk.resetCause ≠ .restart ∧
    State.reset.pending = [] ∧ Instr.query ≠ .powerOn := by decide

/-- R113, R167: at the end of a reset the filters take the raw levels and the first read starts. -/
theorem test_reset_end :
    (after (.resetEnd { contact := true, upLimit := false, downLimit := true }) State.reset).psq.contact.accepted = true ∧
    (after (.resetEnd { contact := true, upLimit := false, downLimit := true }) State.reset).cfl.reading = true := by
  decide

/-- A RESTART frame as received. -/
def restarting (s : State) : State := received s (frameBytes 21 [])

/-- RestartResets: a RESTART frame in STOWED and in ENGAGED, and a strobe that has come. -/
theorem witness_restart :
    ((restarting ready).held = false ∧ (restarting ready).cfl.loader = .ready ∧
      (restarting ready).dlk.rx.frame = some (21, []) ∧ (restarting ready).psq.state = .stowed) ∧
    ((restarting (inState .engaged)).dlk.rx.frame = some (21, []) ∧
      (restarting (inState .engaged)).psq.state ≠ .stowed) ∧
    ({ ready with startAt := some 160 } : State).startAt = some 160 ∧ reached ready.now 160 = true := by
  decide +kernel

/-- RestartResets: the line is idle at those frame ends. -/
theorem witness_restart_idle : (restarting ready).LineIdle ∧ (restarting (inState .engaged)).LineIdle :=
  ⟨received_idle .., received_idle ..⟩

/-- R160: RESTART in ENGAGED is refused with STATE, code 1, and goes out at once as REFUSE. -/
theorem test_restart_refused :
    (after (.restart { contact := false, upLimit := false, downLimit := true }) (restarting (inState .engaged))).dlk.sending.map
      Sending.frame = some (.refuse 21 .state) := by decide +kernel

/-- R156: the part ends a RESTART frame by itself, once the gap has run; refused, it leaves the buffer empty. -/
theorem test_restart_ends :
    (restarting ready).dueEvents.any (fun c => match c with | .restart _ => true | _ => false) = true ∧
    (receivedAgo 1422 ready (frameBytes 21 [])).dueEvents = ready.dueEvents ∧
    (after (.restart (restarting (inState .engaged)).unreadInputs) (restarting (inState .engaged))).dlk.rx.bytes = [] := by
  decide +kernel

/-- The part with every source of the transmitter waiting. -/
def sources : State :=
  { ready with dlk := { ready.dlk with
    limitBuffer := some ready.limitFrame, refusals := [(18, .state)], statusPending := true } }

/-- TransmitterServesByPriority: a frame in progress, and each source waiting. -/
theorem witness_transmitter :
    (sources.settle.dlk.sending ≠ none ∧ sources.dlk.sending = none ∧ sources.dlk.limitBuffer = some ready.limitFrame) ∧
    ({ sources.dlk with limitBuffer := none } : Dlk).refusals = (18, .state) :: [] ∧
    reached ready.instant ready.instant = true ∧ ready.dlk.limitTimer = some 160 ∧ reached ready.now 160 = true := by
  decide

/-- R161 and R166: REFUSE has 6 bytes, 60 bits of 569 synthesis clocks: 34,140 / 8 crystal cycles, rounded up. -/
theorem test_refuse_time : (OutFrame.refuse 18 .state).bytes.length = 6 ∧ sendingCycles 6 = 4268 := by
  decide +kernel

/-- The bytes 0..109 of a configuration block that holds `image` (R176). -/
def blockBody : List Byte :=
  [17, 0x25, 0, 200, 2, 20, 0, 200, 0, 40, 5, 10, 4, 20, 0, 200, 0x04, 0xB0, 0x05, 0x46, 0x05, 0xDC, 0x06, 0xA4,
   0x07, 0x6C, 4, 10, 20, 2, 0, 100, 16, 4, 0, 20, 0, 60, 0x1F, 0x40, 0x1F, 0x40, 0x01, 0x2C, 0x01, 0xF4, 0x27, 0x10,
   0, 200, 16, 16, 0x03, 0xE8, 0x01, 0xF4, 0x0B, 0xB8, 0x01, 0x2C, 0x07, 0xD0,
   3, 0x01, 0xF4, 50, 80, 60, 5, 0x01, 0x90, 40, 70, 50] ++ List.replicate 36 0xEE

/-- A block with a check that is off by so much. -/
def blockWith (body : List Byte) (off : Nat) : List Byte :=
  body ++ bytesMsb 2 (((crcOfBytes body).toNat + off) % 65536)

/-- The check of such a block, and what is read for it. -/
theorem blockWith_check (body : List Byte) (off : Nat) (h : body.length = 110) :
    (crcOfBytes ((blockWith body off).take 110)).toNat = (crcOfBytes body).toNat ∧
    numberOfBytes ((blockWith body off).drop 110) = ((crcOfBytes body).toNat + off) % 65536 := by
  have hn : ∀ n, n < 65536 → numberOfBytes (bytesMsb 2 n) = n := by
    intro n hn; simp [numberOfBytes, bytesMsb]; omega
  rw [blockWith, List.take_left' h, List.drop_left' h]
  exact ⟨rfl, hn _ (Nat.mod_lt _ (by decide))⟩

/-- The bytes of `image` with the station id out of range. -/
def badBody : List Byte := 0 :: blockBody.drop 1

/-- R176: the block is read as `image`. -/
theorem test_block_read : (blockWith blockBody 0).length = 112 ∧ Image.ofBlock (blockWith blockBody 0) = image := by
  decide +kernel

/-- The part reading its block. -/
def loading : State := { State.reset with held := false, cfl := { Cfl.atReset with reading := true } }

/-- LoaderJudgesTheBlock: a sound block and one with a field out of range, both with a check that agrees, and a retry
due. -/
theorem witness_loader :
    (loading.held = false ∧ loading.cfl.loader = .loading ∧ loading.cfl.reading = true ∧ reached loading.now 0 = true) ∧
    ((Image.ofBlock (blockWith blockBody 0)).valid = true ∧ (Image.ofBlock (blockWith badBody 0)).valid = false ∧
      (blockWith badBody 0).length = 112) ∧
    ((crcOfBytes ((blockWith blockBody 0).take 110)).toNat = numberOfBytes ((blockWith blockBody 0).drop 110) ∧
      (crcOfBytes ((blockWith badBody 0).take 110)).toNat = numberOfBytes ((blockWith badBody 0).drop 110)) := by
  refine ⟨by decide, by decide +kernel, ?_, ?_⟩
  · have h := blockWith_check blockBody 0 (by decide); omega
  · have h := blockWith_check badBody 0 (by decide); omega

/-- LoaderJudgesTheBlock: a block whose check differs. -/
theorem witness_loader_crc : (blockWith blockBody 1).length = 112 ∧
    (crcOfBytes ((blockWith blockBody 1).take 110)).toNat ≠ numberOfBytes ((blockWith blockBody 1).drop 110) := by
  refine ⟨by decide +kernel, ?_⟩
  have h := blockWith_check blockBody 1 (by decide); omega

/-- R118, R169: in HALTED the arm is commanded down until the down-limit is true. -/
theorem test_halt : (loading.halt .crc).cfl.loader = .halted ∧ (loading.halt .crc).psq.actuator = .lower ∧
    (State.halt { loading with psq := { loading.psq with downLimit := .taking true } } .range).psq.actuator = .idle := by
  decide

/-- A part whose block is loaded and whose READY strobe has come, its down-limit as given. -/
def loaded (down : Bool) : State :=
  { loading with
    cfl := { Cfl.atReset with image := some image, readyAt := some 0 },
    psq := { loading.psq with downLimit := .taking down } }

/-- BlocksBeginAtReady: a loaded image whose strobe has come, with the down-limit true and false. -/
theorem witness_ready : ∀ down : Bool, (loaded down).held = false ∧ (loaded down).cfl.loader = .loading ∧
    (loaded down).cfl.image = some image ∧ (loaded down).cfl.readyAt = some 0 ∧ reached (loaded down).now 0 = true ∧
    (loaded down).psq.state = .stowed ∧ (loaded down).psq.downLimit.accepted = down := by decide

/-- R118: READY stays STOWED on the down-limit and retracts off it. -/
theorem test_ready : (after .ready (loaded true)).psq.state = .stowed ∧
    (after .ready (loaded false)).psq.state = .retracting ∧ (after .ready (loaded true)).ntx.state = .idle := by
  decide

/-! ## Reception, notices and the peer table -/

/-- R2, R8: on channel 3 (72,000 and 74,000 Hz) a component on the edge of the accepted band counts and one beyond it
does not, nor one that leaves the band; both tones decide NONE. -/
theorem test_tones : Symbol.ofComponents 3 [at' 72500000] = .space ∧ Symbol.ofComponents 3 [at' 72500001] = .silent ∧
    Symbol.ofComponents 3 [at' 73500000] = .mark ∧ Symbol.ofComponents 3 [at' 73499999] = .silent ∧
    Symbol.ofComponents 3 [{ at' 72500000 with highest := 72500001 }] = .silent ∧
    Symbol.ofComponents 3 [at' 72000000, at' 74000000] = .silent := by decide

/-- The part with one channel's context in place, its boundary 1 ms before tick 161. -/
def hearing (ch : Channel) (state : RxState) (run : Nat) (window : List Symbol) (body : List Bool) : State :=
  ({ ready with tmb := { tick := 161, phase := 0 } } : State).withContext ch
    { state := state, boundary := some (160#32 ++ 0#13), run := run, window := window, syncCount := 0, body := body }

/-- A context with that boundary takes a decision at tick 161. -/
theorem hearing_decides (ch : Channel) (state : RxState) (run : Nat) (window : List Symbol) (body : List Bool) :
    (hearing ch state run window body).DecidesNow ch := by
  refine ⟨rfl, rfl, 160#32 ++ 0#13, ?_, ?_⟩
  · simp [hearing, State.withContext]
  · show (({ tick := 161, phase := 0 } : Tmb).instant - (160#32 ++ 0#13)).toNat % 16384 = 8192
    decide

/-- HuntDecisions: a run of 4 and of 5 decisions before, ending in SPACE and in MARK. -/
theorem witness_hunt :
    ((hearing 3 .hunt 4 [.space] []).DecidesNow 3 ∧ ((hearing 3 .hunt 4 [.space] []).crx.contexts[(3 : Channel)]).state = .hunt) ∧
    ((hearing 3 .hunt 5 [.space] []).DecidesNow 3 ∧ 5 ≤ ((hearing 3 .hunt 5 [.space] []).crx.contexts[(3 : Channel)]).run ∧
      ((hearing 3 .hunt 5 [.space] []).crx.contexts[(3 : Channel)]).window.getLast? = some .space) ∧
    ((hearing 3 .hunt 5 [.mark] []).crx.contexts[(3 : Channel)]).window.getLast? = some .mark :=
  ⟨⟨hearing_decides .., by decide⟩, ⟨hearing_decides .., by decide, by decide⟩, by decide⟩

/-- HuntDecisions: the tone content before and after a change, and where a change of frequency is none. -/
theorem witness_boundary : (hearing 3 .hunt 4 [.space] []).held = false ∧
    Symbol.contentOf 3 [72000000] = .space ∧ Symbol.contentOf 3 [72500000] = .space ∧
    Symbol.contentOf 3 [74000000] = .mark ∧ Symbol.contentOf 3 [] = .silent := by decide

/-- R8: a boundary is taken at the change to MARK, and none where the space tone only drifts. -/
theorem test_boundary :
    ((after (.symbolBoundary { channel := 3, before := [72000000], after := [74000000] }) (hearing 3 .hunt 4 [] [])).crx.contexts[(3 : Channel)]).boundary =
      some (161#32 ++ 0#13) ∧
    ((after (.symbolBoundary { channel := 3, before := [72000000], after := [72500000] }) (hearing 3 .hunt 4 [] [])).crx.contexts[(3 : Channel)]).boundary =
      some (160#32 ++ 0#13) := by decide

/-- R9: the sixth decision of an alternation enters SYNC, and a repeated one starts a run of 1. -/
theorem test_sync_entry :
    ((after (.syncEntry 3) (hearing 3 .hunt 5 [.space] [])).crx.contexts[(3 : Channel)]).state = .sync ∧
    ((after (.symbolDecision 3 [at' 72000000] [at' 74000000]) (hearing 3 .hunt 5 [.space] [])).crx.contexts[(3 : Channel)]).run = 1 := by
  decide

/-- SyncAndBodyDecisions: SYNC one decision short of the pattern, SYNC on its 13th, and BODY. -/
theorem witness_sync_and_body :
    ((hearing 3 .sync 6 [.mark, .space, .mark, .mark, .space, .mark, .space] []).DecidesNow 3 ∧
      ((hearing 3 .sync 6 [.mark, .space, .mark, .mark, .space, .mark, .space] []).crx.contexts[(3 : Channel)]).state = .sync) ∧
    ((hearing 3 .body 6 [] [true]).DecidesNow 3 ∧
      ((hearing 3 .body 6 [] [true]).crx.contexts[(3 : Channel)]).state = .body ∧
      ((hearing 3 .body 6 [] [true]).crx.contexts[(3 : Channel)]).body.length < 63) :=
  ⟨⟨hearing_decides .., by decide⟩, hearing_decides .., by decide, by decide⟩

/-- R10, R15: the eighth symbol of the pattern leads to BODY, and a NONE in BODY counts one channel error. -/
theorem test_sync_pattern :
    ((after (.symbolDecision 3 [at' 72000000] [at' 74000000])
      (hearing 3 .sync 6 [.mark, .space, .mark, .mark, .space, .mark, .space] [])).crx.contexts[(3 : Channel)]).state = .body ∧
    (after (.frameAbandon 3) (hearing 3 .body 6 [] [true])).ptb.errors[(3 : Channel)] = 1 := by decide

/-- A notice of a station, with a sequence number and a pilot. -/
def noticeOf (station : BitVec 8) (seq : SeqNo) (pilot : BitVec 3) : Notice :=
  { station := station, seq := seq, cls := 3, flags := { guarded := false, solo := false, derated := false, gapArmed := false },
    demand := 450, offer := 0, volts := 125, pilot := pilot }

/-- The part one decision before the end of a notice on a channel. -/
def completing (ch : Channel) (n : Notice) : State := hearing ch .body 0 [] (n.record.take 63)

/-- The last bit of a notice's record. -/
def lastBit (n : Notice) : Bool := n.record.getD 63 false

/-- That state completes the notice's record, whatever else it holds. -/
theorem completing_completes (ch : Channel) (n : Notice) (h : n.record.take 63 ++ [lastBit n] = n.record)
    (l : (n.record.take 63).length = 63) : (completing ch n).CompletesRecord ch (lastBit n) n.record := by
  refine ⟨hearing_decides .., ?_, ?_, ?_⟩ <;> simp [completing, hearing, State.withContext, h, l]

/-- A record of a notice passes the tests of R12 where its bits agree. -/
theorem record_passes (n : Notice) (c : (crcOfBits (n.record.take 48)).toNat = numberMsb (n.record.drop 48))
    (b : n = Notice.ofBody (n.record.take 48)) (s : n.station ≠ 0 ∧ n.station ≠ 255) (k : n.cls.toNat ≤ 5) :
    RecordPasses n.record n := ⟨c, b, s, k⟩

/-- CompletedRecordChecks: the 64th decision of a record, with the section unknown and the own station id on a peer
channel. -/
theorem witness_record : (completing 3 (noticeOf 17 1 0)).CompletesRecord 3 (lastBit (noticeOf 17 1 0)) (noticeOf 17 1 0).record ∧
    RecordPasses (noticeOf 17 1 0).record (noticeOf 17 1 0) ∧ (3 : Channel) ≠ (completing 3 (noticeOf 17 1 0)).cfg.ownChannel ∧
    (noticeOf 17 1 0).station.toNat = (completing 3 (noticeOf 17 1 0)).cfg.stationId :=
  ⟨completing_completes _ _ (by decide +kernel) (by decide +kernel),
   record_passes _ (by decide +kernel) (by decide +kernel) (by decide) (by decide), by decide, by decide⟩

/-- CompletedRecordChecks: components that decide either bit. -/
theorem witness_record_heard : ∀ mark : Bool, Symbol.ofComponents 3 [at' (if mark then 74000000 else 72000000)] =
    (if mark then .mark else .space) := by decide

/-- CompletedRecordChecks: a record that passes no test, its station id being 0, and a foreign pilot on a known
section. -/
theorem witness_record_failing :
    ((completing 3 (noticeOf 0 1 0)).CompletesRecord 3 (lastBit (noticeOf 0 1 0)) (noticeOf 0 1 0).record ∧
      ¬∃ n, RecordPasses (noticeOf 0 1 0).record n) ∧
    (let s : State := { completing 3 (noticeOf 9 1 5) with
        sgm := { Sgm.atReset with currentCode := some 3, lost := false } }
     s.sectionKnown = true ∧ (noticeOf 9 1 5).pilot ≠ s.sectionIndex ∧
      s.CompletesRecord 3 (lastBit (noticeOf 9 1 5)) (noticeOf 9 1 5).record ∧
      RecordPasses (noticeOf 9 1 5).record (noticeOf 9 1 5)) := by
  refine ⟨⟨completing_completes _ _ (by decide +kernel) (by decide +kernel), ?_⟩, by decide, by decide, ?_,
    record_passes _ (by decide +kernel) (by decide +kernel) (by decide) (by decide)⟩
  · rintro ⟨n, -, h, ⟨hs, -⟩, -⟩
    exact hs (by rw [h]; decide +kernel)
  · have h := completing_completes 3 (noticeOf 9 1 5) (by decide +kernel) (by decide +kernel)
    exact ⟨⟨rfl, rfl, h.decides.2.2⟩, h.body, h.last, h.bits⟩

/-- A record of station 9, heard `ago` ms before tick 161. -/
def heard (station : Nat) (lastSeq : SeqNo) (ago : Nat) : PeerRecord :=
  { station := station, cls := .level, flags := { guarded := false, solo := false, derated := false, gapArmed := false },
    demand := 60, offer := 0, volts := 125, lastSeq := lastSeq, heardAt := 161 - BitVec.ofNat 32 ago }

/-- A part that completes a notice of station 9 on channel 3, with this entry there. -/
def delivering (slot : Option PeerEntry) : State :=
  { completing 3 (noticeOf 9 6 0) with ptb := { Ptb.atReset with slots := Ptb.atReset.slots.set 3 slot } }

/-- PeerNoticeAcceptance: the delivery, whatever entry the channel holds. -/
theorem witness_peer (slot : Option PeerEntry) :
    (delivering slot).PeerDelivers 3 (lastBit (noticeOf 9 6 0)) (noticeOf 9 6 0) := by
  have h := completing_completes 3 (noticeOf 9 6 0) (by decide +kernel) (by decide +kernel)
  exact ⟨⟨_, ⟨⟨rfl, rfl, h.decides.2.2⟩, h.body, h.last, h.bits⟩,
    record_passes _ (by decide +kernel) (by decide +kernel) (by decide) (by decide)⟩,
    (by decide : (3 : Channel) ≠ 2), (by decide : (9#8).toNat ≠ 17), fun k => Bool.noConfusion (show false = true from k)⟩

/-- PeerNoticeAcceptance: the cases of an entry: the same station, a stale primary (age 5 at S = 5), a fresh one with
no contender, with the same contender, and with another contender heard later or earlier. -/
theorem witness_peer_cases :
    (heard 9 5 200).freshness image 161 = .fresh ∧ (heard 4 5 1000).freshness image 161 = .stale ∧
    (heard 4 5 999).freshness image 161 = .aging ∧ (heard 4 5 0).station ≠ 9 ∧
    ((161 : Tick) - (heard 8 5 100).heardAt).toNat < ((161 : Tick) - (heard 4 5 200).heardAt).toNat := by decide

/-- R30: a gap of 0 lowers the tally by 1, and a gap of 3 raises it by 3. -/
theorem test_loss_tally : tallyAfter 5 (seqGap 6 5) = 4 ∧ tallyAfter 5 (seqGap 6 2) = 8 ∧ seqGap 0 15 = 0 := by decide

/-- R13, R21, R22: the part completes a notice on its own channel in a transmitter state, with a latch. -/
def ownHearing (n : Notice) (state : TxState) (latch : Option Notice) : State :=
  { completing 2 n with ntx := { Ntx.atReset state with latch := latch } }

/-- OwnChannelDeliveries: the own echo and a foreign notice in each transmitter state. -/
theorem witness_own (state : TxState) (latch : Option Notice) :
    (ownHearing (noticeOf 17 6 0) state latch).OwnDelivers 2 (lastBit (noticeOf 17 6 0)) (noticeOf 17 6 0) ∧
    (ownHearing (noticeOf 9 6 0) state latch).OwnDelivers 2 (lastBit (noticeOf 9 6 0)) (noticeOf 9 6 0) := by
  have h := completing_completes 2 (noticeOf 17 6 0) (by decide +kernel) (by decide +kernel)
  have k := completing_completes 2 (noticeOf 9 6 0) (by decide +kernel) (by decide +kernel)
  exact ⟨⟨⟨_, ⟨⟨rfl, rfl, h.decides.2.2⟩, h.body, h.last, h.bits⟩,
    record_passes _ (by decide +kernel) (by decide +kernel) (by decide) (by decide)⟩, rfl,
    fun _ k => Bool.noConfusion (show false = true from k)⟩,
    ⟨⟨_, ⟨⟨rfl, rfl, k.decides.2.2⟩, k.body, k.last, k.bits⟩,
    record_passes _ (by decide +kernel) (by decide +kernel) (by decide) (by decide)⟩, rfl,
    fun _ k => Bool.noConfusion (show false = true from k)⟩⟩

/-- R22: a foreign notice on the own channel in IDLE mutes at once, with CLASH and SOLO. -/
theorem test_clash :
    (after (.noticeReceived 2 (lastBit (noticeOf 9 6 0))) (ownHearing (noticeOf 9 6 0) .idle none)).ntx.state = .muted ∧
    (after (.noticeReceived 2 (lastBit (noticeOf 9 6 0))) (ownHearing (noticeOf 9 6 0) .idle none)).cfm.causes.clash = true := by
  decide +kernel

/-- The part in SENDING at a symbol, its strobe at tick 160. -/
def sending (index : Nat) (echo mute : Bool) (fails : Nat) : State :=
  { ready with ntx := { Ntx.atReset .sending with
    symbolIndex := index, echoSeen := echo, mutePending := mute, echoFail := fails, symbolEnds := some 160 } }

/-- NoticeKeyingAndCompletion: symbols 78 and 79, with every result of the echo check. -/
theorem witness_keying (index : Nat) (echo mute : Bool) (fails : Nat) :
    (sending index echo mute fails).held = false ∧ (sending index echo mute fails).ntx.state = .sending ∧
    (sending index echo mute fails).ntx.symbolEnds = some 160 ∧
    reached (sending index echo mute fails).now 160 = true ∧ (sending 78 echo mute fails).ntx.symbolIndex < 79 ∧
    (sending 79 echo mute 0).ntx.symbolIndex = 79 ∧ (sending 79 true mute 0).ntx.echoSeen = true := by
  refine ⟨rfl, rfl, rfl, ?_, (by decide : 78 < 79), rfl, rfl⟩
  show reached (160 : Tick) 160 = true
  decide

/-- R21: the second completion without an echo mutes the transmitter, and the first leaves it IDLE. -/
theorem test_echo_check : (after .noticeCompletion (sending 79 false false 1)).ntx.state = .muted ∧
    (after .noticeCompletion (sending 79 false false 0)).ntx.state = .idle ∧
    (after .symbolStrobe (sending 78 false false 0)).ntx.symbolIndex = 79 := by decide

/-- The part in ENGAGED at a notice timer's expiry, in a transmitter state. -/
def expiring (state : TxState) (activity : Bool) (quiet : Nat) : State :=
  { inState .engaged with
    tmb := { tick := 200, phase := 0 },
    ntx := { Ntx.atReset state with noticeTimer := some 200, activity := activity, quiet := quiet } }

/-- NoticeExpiryAtTransmitter and NoticeExpiryAtRounds: an expiry in IDLE on the wire, in MUTED at each quiet count, and
in STOWED off the wire, where the sequencer starts no round. -/
theorem witness_expiry :
    ((expiring .idle false 0).held = false ∧ (expiring .idle false 0).ntx.noticeTimer = some 200 ∧
      reached (expiring .idle false 0).now 200 = true ∧ (expiring .idle false 0).ntx.state = .idle ∧
      (expiring .idle false 0).psq.contact.accepted = true ∧ (expiring .idle false 0).psq.state = .engaged) ∧
    ((expiring .muted false 7).ntx.state = .muted ∧ (expiring .muted false 6).ntx.quiet < 7 ∧
      (expiring .muted true 7).ntx.activity = true) ∧
    ({ ready with tmb := { tick := 200, phase := 0 } } : State).psq.contact.accepted = false ∧
    ready.psq.state ≠ .precharge ∧ ready.psq.state ≠ .engaged ∧ ready.ntx.noticeTimer = some 200 := by decide

/-- R18, R23, R44: an expiry starts a notice and a round, and the eighth quiet expiry unmutes. -/
theorem test_expiry : (after .noticeTimerExpiry (expiring .idle false 0)).ntx.state = .sending ∧
    (after .noticeTimerExpiry (expiring .idle false 0)).sre.round.isSome = true ∧
    (after .noticeTimerExpiry (expiring .muted false 7)).ntx.state = .idle := by decide

/-- CarrierOnlyFromNoticeStarts: a state in READY, from which an expiry starts a notice. -/
theorem witness_carrier : (expiring .idle false 0).QuietUnlessReady ∧
    ∃ t, exec .noticeTimerExpiry (expiring .idle false 0) = .next t ∧ t.ntx.state = .sending :=
  ⟨fun h => absurd rfl h, _, rfl, by decide⟩

/-- SweepRemovesAgedRecords: a sweep timer due; a stale record is gone, one of age 4 is not. -/
theorem witness_sweep : ready.held = false ∧ ready.ptb.sweepTimer = some 150 ∧ reached ready.now 150 = true ∧
    (heard 4 5 1000).freshness image 161 = .stale ∧ (heard 4 5 999).freshness image 161 ≠ .stale ∧
    { heard 4 5 200 with cls := .leaving }.age image 161 = 1 := by decide

/-- R39: a surviving contender takes the place of a primary that is removed. -/
theorem test_sweep : sweepEntry image 161 { primary := heard 4 5 1000, tally := 3, contender := some (heard 9 5 10) } =
    some { primary := heard 9 5 10, tally := 0, contender := none } := by decide

/-- StatesFollowAges: S = 5, an age across the tick count's wrap, and a contender heard later than the primary. -/
theorem witness_ages : 3 ≤ image.staleLimit ∧ (39 : Tick) = (0xFFFFFFFF : Tick) + BitVec.ofNat 32 40 ∧
    ageOf (199 : Tick) (0xFFFFFFFF : Tick) 200 = 1 ∧
    ((161 : Tick) - (heard 9 5 100).heardAt).toNat ≤ ((161 : Tick) - (heard 4 5 200).heardAt).toNat := by decide

/-- RoundCopyListsTheTable: a table with an entry on channel 3 and none on the own channel 2. -/
theorem witness_copy :
    (delivering (some { primary := heard 4 5 100, tally := 0, contender := some (heard 9 5 10) })).ptb.slots[
      (delivering (some { primary := heard 4 5 100, tally := 0, contender := some (heard 9 5 10) })).cfg.ownChannel] = none ∧
    (delivering (some { primary := heard 4 5 100, tally := 0, contender := some (heard 9 5 10) })).peerCopy.length = 1 := by
  decide

/-! ## Share rounds -/

/-- A round in GUARDED or SOLO with one peer of a class and a demand, the own class as given. -/
def roundOf (own : TruckClass) (demand offer vAvg : Nat) (mode : Level) : Round :=
  { snapshot := { own := { cls := own, demand := demand, offer := offer }, sectionIndex := 3, sectionKnown := true,
                  sectionRecord := some { pilot := 3, capacity := 500, reserve := 50, accept := 80, absorb := 60 },
                  level := mode, vAvg := vAvg, peers := [] },
    stations := [{ cls := own, demand := demand, offer := offer }, { cls := .loadedClimb, demand := 180, offer := 0 }],
    tags := { sectionIndex := 3, sectionKnown := true, level := mode }, mode := mode, startedAt := 160 }

/-- OwnShareIsTheGreatestLevel: a consumer in GUARDED and in SOLO, and a station that is none. -/
theorem witness_share :
    (roundOf .loadedClimb 180 0 1600 .guarded).snapshot.self.consumes = true ∧
    (roundOf .loadedClimb 180 0 1600 .guarded).mode ≠ .solo ∧
    (roundOf .loadedClimb 180 0 1600 .solo).snapshot.self.consumes = true ∧
    (roundOf .parked 0 0 1600 .full).snapshot.self.consumes = false ∧
    (roundOf .loadedClimb 180 0 1600 .full).snapshot.self ∈ (roundOf .loadedClimb 180 0 1600 .full).stations := by
  decide

/-- R53: two consumers of 180 in 360 of 450 guarded by 20 % have their whole demand. -/
theorem test_share : (roundOf .loadedClimb 180 0 1600 .guarded).share image = 180 ∧
    (roundOf .loadedClimb 180 0 1600 .solo).share image = 40 := by decide

/-- EffectiveCapacityFollowsCredit: no offer at all, a guard of 20 %, and the greatest capacity. -/
theorem witness_capacity : image.guardPercent ≤ 100 ∧
    ([{ cls := .descent, demand := 0, offer := 0 }] : List Station).filter
      (fun st => decide (st.cls = .descent) && decide (0 < st.offer)) = [] ∧
    ({ pilot := 3, capacity := 2000, reserve := 0, accept := 100, absorb := 0 } : SectionRecord).capacity ≤ 2000 := by
  decide

/-- FactorsStayOnTheirScale: ends and middle of both bands (R55, R60). -/
theorem witness_factors : image.vFloor < image.vStart ∧ image.vTaper < image.vCut ∧
    deratingFactor 1350 1350 1500 = 0 ∧ deratingFactor 1425 1350 1500 = 128 ∧ deratingFactor 1500 1350 1500 = 256 ∧
    taperFactor 1700 1700 1900 = 256 ∧ taperFactor 1800 1700 1900 = 128 ∧ taperFactor 1900 1700 1900 = 0 := by decide

/-- GrantStaysWithinTheShare: a share below, at and above A_aux = 5. -/
theorem witness_grant : image.vFloor < image.vStart ∧ (roundOf .loadedClimb 4 0 1425 .full).share image < image.auxDraw ∧
    image.auxDraw ≤ (roundOf .loadedClimb 5 0 1425 .full).share image ∧
    (roundOf .loadedClimb 180 0 1425 .solo).mode = .solo := by decide

/-- R56: at half derating a share of 180 is granted 90, one of 5 keeps its 5, and one of 4 gets 2. -/
theorem test_grant : (roundOf .loadedClimb 180 0 1425 .full).grant image = 90 ∧
    (roundOf .loadedClimb 5 0 1425 .full).grant image = 5 ∧ (roundOf .loadedClimb 4 0 1425 .full).grant image = 2 := by
  decide

/-- RegenAndChopperShareTheOffer: a regenerator in FULL below and at V_cut, and in SOLO; a station that is none. -/
theorem witness_regen : image.vTaper < image.vCut ∧ (roundOf .descent 0 90 1800 .full).snapshot.self.regenerates = true ∧
    (roundOf .descent 0 90 1900 .full).snapshot.vAvg = image.vCut ∧ (roundOf .descent 0 90 1800 .full).mode ≠ .solo ∧
    (roundOf .level 50 90 1800 .full).snapshot.self.regenerates = false := by decide

/-- R61: at half taper an offer of 90 returns 45 and leaves 45 to the chopper. -/
theorem test_regen : (roundOf .descent 0 90 1800 .full).regenLimit image = 45 ∧
    (roundOf .descent 0 90 1800 .full).chopperDemand image = 45 := by decide

/-- The stations of the worked case of Section 3.11, self first. -/
def workedStations : List Station :=
  [{ cls := .loadedClimb, demand := 200, offer := 0 }, { cls := .loadedClimb, demand := 200, offer := 0 },
   { cls := .emptyClimb, demand := 150, offer := 0 }, { cls := .level, demand := 80, offer := 0 },
   { cls := .descent, demand := 0, offer := 60 }]

/-- The round of the worked case, self being a station of the list, with its own V_avg. -/
def workedRound (own : TruckClass) (demand offer vAvg : Nat) : Round :=
  { snapshot := { own := { cls := own, demand := demand, offer := offer }, sectionIndex := 3, sectionKnown := true,
                  sectionRecord := some { pilot := 3, capacity := 600, reserve := 20, accept := 50, absorb := 40 },
                  level := .guarded, vAvg := vAvg, peers := [] },
    stations := workedStations, tags := { sectionIndex := 3, sectionKnown := true, level := .guarded },
    mode := .guarded, startedAt := 0 }

/-- The configuration of the worked case. -/
def workedImage : Image :=
  { image with guardPercent := 18, vFloor := 1350, vStart := 1600, vTaper := 1950, vCut := 2100, auxDraw := 5 }

/-- Section 3.11: L is 45 at E of 500, the share is 180, F is 174 and the grant 122; at station 77 the regen limit is 39
and the chopper demand 21. -/
theorem test_worked_round : levelSearch (drawAtLevel workedStations) 500 = 45 ∧
    (workedRound .loadedClimb 200 0 1520).share workedImage = 180 ∧
    (workedRound .loadedClimb 200 0 1520).factor workedImage = 174 ∧
    (workedRound .loadedClimb 200 0 1520).grant workedImage = 122 ∧
    (workedRound .descent 0 60 2000).regenLimit workedImage = 39 ∧
    (workedRound .descent 0 60 2000).chopperDemand workedImage = 21 := by decide

/-- The part with a round in flight whose tags name section 3, on a section. -/
def rounding (code : PilotCode) : State :=
  { inState .engaged with
    sgm := { Sgm.atReset with currentCode := some code, lost := false },
    cfm := { Cfm.atReset with level := .full, causes := Cfm.atReset.causes.put false .pilotLost },
    sre := { Sre.atReset with round := some (roundOf .loadedClimb 180 0 1600 .full) } }

/-- RoundCompletionPublishesOrVoids: tags that hold and tags that do not. -/
theorem witness_completion : (rounding 3).held = false ∧
    (rounding 3).sre.round = some (roundOf .loadedClimb 180 0 1600 .full) ∧
    ((roundOf .loadedClimb 180 0 1600 .full).tags.sectionIndex = (rounding 3).sectionIndex ∧
      (rounding 3).sectionKnown = true ∧ (rounding 3).cfm.level = .full) ∧
    (roundOf .loadedClimb 180 0 1600 .full).tags.sectionIndex ≠ (rounding 5).sectionIndex := by decide

/-- R62 to R64: the round is published on its section and void on another. -/
theorem test_completion : (after .roundCompletion (rounding 3)).sre.grant = 180 ∧
    (after .roundCompletion (rounding 5)).sre.voided = 1 ∧ (after .roundCompletion (rounding 5)).sre.grant = 0 := by
  decide

/-- PublicationNeedsUnchangedTags: a completion that changes the published values, and an expiry that does. -/
theorem witness_publication :
    (∃ t, exec .roundCompletion (rounding 3) = .next t ∧
      (t.sre.grant, t.sre.regen, t.sre.chopper) ≠
        ((rounding 3).sre.grant, (rounding 3).sre.regen, (rounding 3).sre.chopper)) ∧
    Instr.sweep ≠ .noticeTimerExpiry := ⟨⟨_, rfl, by decide⟩, by decide⟩

/-! ## Measurement -/

/-- The part in ENGAGED drawing 100 of a target of 120, its rings filled, its blocks agreeing with one another, and one
peer on channel 3. -/
def drawing : State :=
  { inState .engaged with
    sre := { Sre.atReset with grant := 120, regen := 30, chopper := 10 },
    cfm := { level := .full, recovery := 0, causes := Cfm.atReset.causes.put false .pilotLost },
    msu := { Msu.atReset with
      voltage := { samples := [1600, 1601], sum := 3201 }, vAvg := 1600,
      current := { samples := [-1, -2], sum := -3 }, iAvg := -2, collapse := false },
    drp := { applied := 100, target := 120,
             caps := { sequencer := .rated, gap := .rated, arc := .rated, link := .rated, collapse := .rated },
             hold := false, cut := false, episode := some { dir := .rising, target := 120, steps := 25, held := false },
             last := { ending := .noEnding, steps := 0 }, stepTimer := some 160 },
    lrg := { current := 512, pending := none, frame := 3, count := 255, output := false },
    bch := { running := true, regenInForce := 30, chopperInForce := 10, inPeriod := true, count := 20, duty := 25,
             dumpLength := 25, dump := true, clamp := false },
    sgm := { Sgm.atReset with currentCode := some 3, lost := false },
    dlk := { Dlk.atReset .powerOn with
      own := { cls := .loadedClimb, demand := 180, offer := 40 }, silence := false, stow := false,
      silenceTimer := some 160, stowTimer := some 160, limitTimer := some 160 },
    ptb := { Ptb.atReset with
      sweepTimer := some 200, slots := Ptb.atReset.slots.set 3 (some { primary := heard 9 5 100, tally := 2, contender := none }) } }

/-- VoltageConversions: a tick that finds the sequencer IDLE, and a conversion in flight over a sound ring. -/
theorem witness_voltage : (drawing.held = false ∧ drawing.cfl.loader = .ready ∧ drawing.tmb.phase = 0 ∧
      drawing.msu.adc = .idle) ∧
    ({ drawing with msu := { drawing.msu with adc := .voltage 0 } } : State).msu.adc = .voltage 0 ∧
    drawing.msu.voltage.Sound 0 2999 drawing.msu.vAvg ∧ drawing.msu.collapse = false ∧ ready.msu.collapse = true ∧
    drawing.msu.runsFrom ≠ some drawing.instant ∧
    ({ drawing with msu := { drawing.msu with runsFrom := some drawing.instant } } : State).msu.runsFrom =
      some drawing.instant :=
  ⟨by decide, rfl, ⟨by decide, by decide, by decide, by decide⟩, by decide, by decide, by decide, rfl⟩

/-- The part so many crystal cycles into a voltage conversion, in READY. -/
def converting (cycles : Instant) : State :=
  { ready with msu := { ready.msu with adc := .voltage (ready.instant - cycles) } }

/-- R71, R72: a conversion may take 40 µs, 327 crystal cycles; the part then ends it. -/
theorem test_conversion_bound :
    (converting 327).dueEvents.any (fun c => match c with | .voltageConversionCompletion _ => true | _ => false) = true ∧
    (converting 326).dueEvents = ready.dueEvents ∧
    (after (.voltageConversionCompletion 0) (converting 327)).msu.adc =
      .current ready.instant := by decide +kernel

/-- R71, R73, R76, R80: the first sample alone decides V_avg and, at 1,350 V, clears the collapse state; code 1,844
is 1,350 V and code 1,843 is 1,349 V. -/
theorem test_voltage :
    (after (.voltageConversionCompletion 1844) (converting 0)).msu.vAvg = 1350 ∧
    (after (.voltageConversionCompletion 1844) (converting 0)).msu.collapse = false ∧
    (after (.voltageConversionCompletion 1843) (converting 0)).msu.collapse = true ∧
    (after .conversionPairStart ready).msu.adc = .voltage ready.instant := by decide

/-- R82, R171: the tick of READY's own moment starts no pair, and a later one does. -/
theorem test_first_pair : (after .conversionPairStart (after .ready (loaded true))).msu.adc = .idle ∧
    (after .conversionPairStart { after .ready (loaded true) with tmb := { tick := 1, phase := 0 } }).msu.adc =
      .voltage ((1 : Tick) ++ 0#13) := by decide

/-- R75: at a count of 16 the oldest sample leaves and the newest joins. -/
theorem test_ring : ({ samples := 7 :: List.replicate 15 1, sum := 22 } : Ring).push 4 =
    { samples := List.replicate 15 1 ++ [4], sum := 19 } := by decide

/-- The part with a current conversion in flight, A at 0 and the bound at 20, and a run that began 200 ms ago. -/
def judging (overdraw : Bool) (overFrom underFrom : Option Tick) : State :=
  { ready with msu := { ready.msu with
    adc := .current ready.instant, overdraw := overdraw, overSince := overFrom, underSince := underFrom } }

/-- CurrentConversions: sound rings, and runs just short of and at their spans. -/
theorem witness_current : drawing.msu.current.Sound (-400) 399 drawing.msu.iAvg ∧
    ((judging false (some (160 - 200)) none).msu.adc = .current ready.instant ∧ (judging false (some (160 - 200)) none).held = false ∧
      (judging false (some (160 - 200)) none).msu.current.Sound (-400) 399 0) ∧
    ((ready.now - (160 - 200 : Tick)).toNat = 200 ∧ (ready.now - (160 - 199 : Tick)).toNat < 200 ∧
      (ready.now - (160 - 1000 : Tick)).toNat = 1000 ∧ (ready.now - (160 - 999 : Tick)).toNat < 1000) :=
  ⟨⟨by decide, by decide, by decide, by decide⟩, ⟨rfl, rfl, by decide, by decide, by decide, by decide⟩, by decide⟩

/-- R77 and R78: an average of 21 over a bound of 20 raises OVERDRAW when its run spans 200 ms (code 2,156 is 21 DU),
and one of 20 clears it at 1,000 ms (code 2,155 is 20 DU). -/
theorem test_overdraw :
    (after (.currentConversionCompletion 2156) (judging false (some (160 - 200)) none)).cfm.causes.overdraw = true ∧
    (after (.currentConversionCompletion 2156) (judging false (some (160 - 199)) none)).cfm.causes.overdraw = false ∧
    (after (.currentConversionCompletion 2155) (judging true none (some (160 - 1000)))).msu.overdraw = false := by decide

/-! ## Draw ramp, reference and chopper -/

/-- The part drawing A with a step due, in a gap phase, its target as given. -/
def stepping (a t : Nat) (phase : GapPhase) (state : PsqState) : State :=
  { drawing with
    psq := psqIn state, drp := { drawing.drp with applied := a, target := t, episode := none },
    sgm := { drawing.sgm with phase := phase, countdown := some { timeToGap := 550, loadedAt := 160 } } }

/-- RampStep: a step due, the cut condition met exactly (A of 41 needs 3 steps and 500 ms of margin: 530 ms), and an A
at zero in CUTTING. -/
theorem witness_ramp :
    ((stepping 37 41 .disarmed .engaged).held = false ∧ (stepping 37 41 .disarmed .engaged).drp.stepTimer = some 160 ∧
      reached (stepping 37 41 .disarmed .engaged).now 160 = true) ∧
    (41 + image.slewCut - 1) / image.slewCut * 10 + image.gapMargin = 530 ∧
    (stepping 20 0 .disarmed .cutting).psq.state = .cutting := by decide

/-- R100, R141, R122: a rise by slew_up, a cut where the remaining 550 ms are the cut time of an A of 81, none at 80,
and a cut to zero in CUTTING that opens the contactor. -/
theorem test_ramp : (after .rampStep (stepping 37 60 .disarmed .engaged)).drp.applied = 41 ∧
    (after .rampStep (stepping 81 81 .approach .engaged)).sgm.cut = true ∧
    (after .rampStep (stepping 80 80 .approach .engaged)).sgm.cut = false ∧
    (after .rampStep (stepping 10 0 .disarmed .cutting)).psq.state = .discharge := by decide

/-- AppliedRisesOnlyAtRampSteps: a step that raises A and one that lowers it. -/
theorem witness_applied :
    (∃ t, exec .rampStep (stepping 37 60 .disarmed .engaged) = .next t ∧ 37 < t.drp.applied ∧ resets .rampStep = false) ∧
    ∃ t, exec .rampStep (stepping 37 0 .disarmed .engaged) = .next t ∧ t.drp.applied < 37 :=
  ⟨⟨_, rfl, by decide, rfl⟩, _, rfl, by decide⟩

/-- RecompositionsDriveEpisodes: READY with a rising episode below T, no episode, an arriving cut, a cut that stands and
one that ends. -/
theorem witness_recompose : drawing.cfl.loader = .ready ∧ drawing.psq.state = .engaged ∧
    drawing.drp.episode = some { dir := .rising, target := 120, steps := 25, held := false } ∧ drawing.drp.applied < 120 ∧
    (stepping 37 60 .disarmed .engaged).drp.episode = none ∧
    (stepping 37 60 .disarmed .cutting).cutNow = true ∧ (stepping 37 60 .disarmed .cutting).drp.cut = false ∧
    ({ drawing.drp with cut := true, episode := some { dir := .cutting, target := 0, steps := 1, held := false } } : Drp).cut = true ∧
    drawing.cutNow = false := by decide

/-- R104, R105, R106: a grant of 130 retargets the rise, arc warn holds it at a target of 60 reversed into a fall, and a
gap cut records CUT with its 25 steps. -/
theorem test_episodes :
    (State.recompose { drawing with sre := { drawing.sre with grant := 130 } } false).drp.last =
      { ending := .retargeted, steps := 25 } ∧
    ((State.recompose { drawing with psq := { drawing.psq with arcWarn := true } } false).drp.episode.map Episode.dir) =
      some .falling ∧
    (State.startGapCut drawing).drp.last = { ending := .cut, steps := 25 } := by decide

/-- ReferenceCodesAndGroups: A within Rt, a pending code, a group start, a count within a group, and a period's last
count. -/
theorem witness_reference : (0 < 200 ∧ 122 ≤ 200) ∧ drawing.lrg.pending.getD drawing.lrg.current ≤ 1023 ∧
    (drawing.cfl.loader = .ready ∧ drawing.tmb.phase.toNat % 1024 = 0 ∧ drawing.lrg.count = 255 ∧ drawing.lrg.frame < 4) ∧
    ({ tick := 160, phase := 1023 } : Tmb).phase.toNat % 1024 ≠ 0 ∧ ready.lrg.count < 255 := by decide

/-- R110, R111: a group takes its pending code 562 and starts high; past count 255 the next frame begins. -/
theorem test_reference :
    (after .groupStart { drawing with lrg := { drawing.lrg with pending := some 562 } }).lrg =
      { current := 562, pending := none, frame := 0, count := 0, output := true } ∧
    (after .pwmCount { drawing with tmb := { tick := 160, phase := 256 } }).lrg.frame = 0 := by decide

/-- ChopperPeriods: RUNNING at a tick and at a chopper count within a period; a dump and a clamp count of one period;
the last dump count of a full period and the first clamp count of a period of length 1. -/
theorem witness_chopper : (drawing.held = false ∧ drawing.bch.running = true ∧ drawing.tmb.phase = 0) ∧
    (drawing.bch.inPeriod = true ∧ drawing.bch.count < 255 ∧ ({ tick := 160, phase := 672 } : Tmb).phase ≠ 0 ∧
      ({ tick := 160, phase := 672 } : Tmb).phase.toNat % 32 = 0) ∧
    (20 < 53 ∧ 53 + image.deadTime ≤ 55 ∧ 55 + image.deadTime < 256) ∧
    (255 < 256 ∧ 1 + image.deadTime ≤ 3 ∧ 3 + image.deadTime < 256) := by decide

/-- R89, R91: a demand of 10 at a rating of 100 is 25 counts; the dump is on for counts 0 to 24. -/
theorem test_chopper : (after .chopperPeriodStart drawing).bch.duty = 25 ∧
    (after .chopperPeriodStart drawing).bch.dump = true ∧
    (after .chopperCount { drawing with
      bch := { drawing.bch with count := 24 }, tmb := { tick := 160, phase := 800 } }).bch.dump = false := by decide

/-- ChopperFollowsTheSequencer: ENGAGED with and without the cut, CUTTING, and an open contactor. -/
theorem witness_in_force : drawing.psq.state = .engaged ∧ drawing.sgm.cut = false ∧
    (stepping 1 0 .disarmed .cutting).psq.state = .cutting ∧ ready.psq.state ≠ .engaged ∧ ready.psq.state ≠ .cutting := by
  decide

/-! ## Pantograph sequencer -/

/-- A filter one edge short of accepting a level. -/
def wavering (level : Bool) : InputFilter := { accepted := !level, previous := level }

/-- The part in a sequencer state with filters that the next edge changes. -/
def edging (st : PsqState) (contact down : Bool) : State :=
  { inState st with psq := { psqIn st with contact := wavering contact, downLimit := wavering down } }

/-- SequencerEntries: a state that is entered from another and one that is entered afresh. -/
theorem test_entries : (State.enterPsq drawing .gapCoast).drp.applied = 0 ∧
    (State.enterPsq drawing .gapCoast).lrg.pending = some 0 ∧
    (State.enterPsq drawing .gapCoast).psq.stateTimer = some (160 + 10000) ∧
    (State.enterPsq (inState .precharge) .engaged).psq.contactor = true := by decide

/-- FilterEdges: ticks that are edges of the three clocks, filters that accept each level, and ones that do not. -/
theorem witness_filters :
    ((edging .engaged false true).held = false ∧ (edging .engaged false true).tmb.phase = 0 ∧
      (edging .engaged false true).now.toNat % image.contactClock = 0 ∧
      (edging .engaged false true).now.toNat % image.upClock = 0 ∧
      (edging .engaged false true).now.toNat % image.downClock = 0 ∧ (edging .engaged false true).cfl.loader = .ready ∧
      loading.cfl.loader ≠ .ready ∧ loading.tmb.phase = 0) ∧
    (false ≠ (edging .engaged false true).psq.contact.accepted ∧ false = (edging .engaged false true).psq.contact.previous) ∧
    (true ≠ (edging .engaged true false).psq.contact.accepted ∧ true = (edging .engaged true false).psq.contact.previous) ∧
    ¬(true ≠ (inState .engaged).psq.contact.accepted ∧ true = (inState .engaged).psq.contact.previous) := by decide

/-- R116: a single differing sample is not accepted, and the second is. -/
theorem test_filter : (after (.filterEdge .upLimit false) (inState .engaged)).psq.upLimit =
      { accepted := true, previous := false } ∧
    (after (.filterEdge .upLimit false) (after (.filterEdge .upLimit false) (inState .engaged))).psq.upLimit =
      { accepted := false, previous := false } := by decide

/-- ContactLosses and ContactReturns: an accepting edge in every state, and each gap phase and retry count. -/
theorem witness_contacts : ∀ (st : PsqState) (level : Bool),
    (edging st level true).held = false ∧ (edging st level true).tmb.phase = 0 ∧
    (edging st level true).now.toNat % image.contactClock = 0 ∧
    (edging st level true).psq.contact = { accepted := !level, previous := level } ∧
    (edging st level true).psq.state = st ∧ (edging st level true).psq.retry < 2 ∧
    (edging st level true).psq.upLimit.accepted = true := by
  intro st level; cases st <;> cases level <;> decide

/-- R121, R143: a loss in ENGAGED goes to DROPOUT, and with the gap in CUT to GAP_COAST and CROSSING. -/
theorem test_contact_loss : (after .contactLoss (edging .engaged false true)).psq.state = .dropout ∧
    (after .contactLoss { edging .engaged false true with sgm := { Sgm.atReset with phase := .cut, cut := true } }).psq.state =
      .gapCoast ∧
    (after .contactLoss { edging .engaged false true with sgm := { Sgm.atReset with phase := .cut, cut := true } }).sgm.phase =
      .crossing := by decide

/-- The sticky faults that the STATUS frame being sent reports. -/
def reported (s : State) : Option StickySet :=
  s.dlk.sending.bind fun f => match f.frame with
    | .status r => some r.sticky
    | _ => none

/-- R119, R143, R163: a return in RAISING below the working range sets RAISE_FAIL, which the STATUS of the state change
reports and clears; a return in CROSSING disarms the gap. -/
theorem test_contact_return :
    let s := after .contactReturn { edging .raising true true with
      psq := { (edging .raising true true).psq with upLimit := .taking false } }
    (reported s).map StickySet.raiseFail = some true ∧ s.dlk.sticky.raiseFail = false ∧
    (after .contactReturn { edging .gapCoast true true with sgm := { Sgm.atReset with phase := .crossing, cut := true } }).sgm.phase =
      .disarmed := by decide

/-- The part in a state whose timer expires at this tick. -/
def timedOut (st : PsqState) : State := { inState st with psq := { psqIn st with stateTimer := some 160 } }

/-- DownLimitAndStateTimers: the accepting edge, and each of the six timers due. -/
theorem witness_timers : ((edging .retracting true true).psq.downLimit = { accepted := false, previous := true } ∧
      (edging .retracting true true).now.toNat % image.downClock = 0 ∧ (edging .retracting true true).cfl.loader ≠ .halted) ∧
    ∀ st : PsqState, (timedOut st).held = false ∧ (timedOut st).psq.stateTimer = some 160 ∧
      reached (timedOut st).now 160 = true ∧ (timedOut st).psq.state = st := by
  refine ⟨by decide, fun st => ?_⟩
  cases st <;> decide

/-- R115: where each timer leads, with the down-limit false and the stow condition standing or not. -/
theorem test_timers : (after .raiseTimeout (timedOut .raising)).psq.state = .retracting ∧
    (after .prechargeExpiry (timedOut .precharge)).psq.state = .discharge ∧
    (after .prechargeExpiry { timedOut .precharge with dlk := drawing.dlk }).psq.state = .engaged ∧
    (after .reacquireExpiry (timedOut .dropout)).psq.state = .discharge ∧
    (after .coastExpiry (timedOut .gapCoast)).psq.state = .discharge ∧
    (after .dischargeExpiry (timedOut .discharge)).psq.state = .retracting ∧
    (after .retractTimeout (timedOut .retracting)).psq.state = .stuck ∧
    (after .downLimit (edging .stuck true true)).psq.state = .stowed := by decide

/-- ContactorClosesOnlyAfterPrecharge: an interlocked PRECHARGE in READY, whose expiry closes the contactor. -/
theorem witness_contactor : State.Interlocked { timedOut .precharge with dlk := drawing.dlk } ∧
    State.QuietUnlessReady { timedOut .precharge with dlk := drawing.dlk } ∧
    ∃ t, exec .prechargeExpiry { timedOut .precharge with dlk := drawing.dlk } = .next t ∧ t.psq.contactor = true ∧
      (timedOut .precharge).psq.contactor = false :=
  ⟨⟨by decide, by decide, by decide, by decide⟩, fun h => absurd rfl h, _, rfl, by decide, by decide⟩

/-- A PANTO frame as received in a state. -/
def panto (st : PsqState) (request : Byte) : State := received (inState st) (frameBytes 18 [request])

/-- PantoRequests: RAISE, LOWER and two bad request bytes as received, in READY. -/
theorem witness_panto : (panto .stowed 1).held = false ∧ (panto .stowed 1).cfl.loader = .ready ∧
    (panto .stowed 1).dlk.rx.frame = some (18, [1]) ∧ (panto .engaged 2).dlk.rx.frame = some (18, [2]) ∧
    (panto .engaged 0).dlk.rx.frame = some (18, [0]) ∧ (panto .engaged 3).dlk.rx.frame = some (18, [3]) := by
  decide +kernel

/-- PantoRequests: the line is idle at these frame ends. -/
theorem witness_panto_idle (st : PsqState) (request : Byte) : (panto st request).LineIdle := received_idle ..

/-- R126: RAISE is taken in STOWED; LOWER in ENGAGED with A at 0 passes through CUTTING into DISCHARGE. -/
theorem test_panto : (after .pantoRaise (panto .stowed 1)).psq.state = .raising ∧
    (after .pantoLower (panto .engaged 2)).psq.state = .discharge ∧
    (after .pantoLower (panto .raising 2)).psq.state = .retracting ∧
    (after .pantoBadValue (panto .engaged 3)).dlk.sending.map Sending.frame = some (.refuse 18 .badValue) := by
  decide +kernel

/-- The part in ENGAGED or CUTTING with these buckets and its ring advance due. -/
def bouncing (st : PsqState) (buckets : List Nat) (run : Nat) : State :=
  { inState st with psq := { psqIn st with buckets := buckets, rawRun := run, ringTimer := some 160 } }

/-- ArcMonitor: a strobe with runs of 0, 1, 16 and 17, and sums on both sides of each threshold (warn 20, trip 60). -/
theorem witness_arc : ((bouncing .engaged [0, 0, 0, 0, 0, 0, 0, 255] 16).held = false ∧
      (bouncing .engaged [0, 0, 0, 0, 0, 0, 0, 255] 16).tmb.phase.toNat % 512 = 0 ∧
      (bouncing .engaged [0, 0, 0, 0, 0, 0, 0, 255] 16).psq.buckets = [0, 0, 0, 0, 0, 0, 0] ++ [255]) ∧
    (1 ≤ 16 ∧ 16 ≤ image.bounceMax ∧ image.bounceMax < 17) ∧ reached (160 : Tick) 160 = true ∧
    ([10, 0, 0, 0, 0, 0, 0, 0].sum ≤ image.arcWarn / 2 ∧ image.arcWarn / 2 < [11, 0, 0, 0, 0, 0, 0, 0].sum ∧
      image.arcWarn ≤ [20, 0, 0, 0, 0, 0, 0, 0].sum ∧ [59, 0, 0, 0, 0, 0, 0, 0].sum < image.arcTrip ∧
      image.arcTrip ≤ [60, 0, 0, 0, 0, 0, 0, 0].sum) := by decide

/-- R127 to R129: a run of 16 is a bounce and one of 17 is not, a bucket stays at 255, 20 warns, and 60 trips. -/
theorem test_arc :
    (after (.contactStrobe true) (bouncing .engaged [0, 0, 0, 0, 0, 0, 0, 4] 16)).psq.buckets = [0, 0, 0, 0, 0, 0, 0, 5] ∧
    (after (.contactStrobe true) (bouncing .engaged [0, 0, 0, 0, 0, 0, 0, 4] 17)).psq.buckets = [0, 0, 0, 0, 0, 0, 0, 4] ∧
    (after .ringAdvance (bouncing .engaged [0, 20, 0, 0, 0, 0, 0, 0] 0)).psq.arcWarn = true ∧
    (after .ringAdvance { drawing with psq := (bouncing .engaged [0, 60, 0, 0, 0, 0, 0, 0] 0).psq }).psq.state = .cutting := by
  decide

/-! ## Section, gap and confidence -/

/-- The part at a window's end, with a candidate, its stability and a none count, the pilot lost or not. -/
def windowing (candidate : Option PilotCode) (stability noneCount : Nat) (lost : Bool) : State :=
  { ready with sgm := { Sgm.atReset with
    candidate := candidate, stability := stability, noneCount := noneCount, lost := lost } }

/-- PilotWindows: a window's end, a frequency at each end of band 7 and one between bands, and counts on both sides of
establishment and of the ten silent windows. -/
theorem witness_windows : ((windowing (some 7) 2 9 false).held = false ∧
      (windowing (some 7) 2 9 false).crx.pilotEnd = some 160 ∧ reached (windowing (some 7) 2 9 false).now 160 = true) ∧
    (1440000 + 250000 * 7 ≤ 3190000 ∧ 3310000 ≤ 1560000 + 250000 * 7) ∧
    (∀ p < 8, ¬(1440000 + 250000 * p ≤ 1600000 ∧ 1600000 ≤ 1560000 + 250000 * p)) ∧
    (image.pilotTimeout + 99) / 100 = 10 ∧ min 50 (9 + 1) = 10 := by decide

/-- R134, R136, R138: the third window of one code changes the section, and the tenth silent one loses the pilot. -/
theorem test_windows :
    (after (.pilotWindowEnd true 2250000) (windowing (some 3) 2 0 true)).sectionKnown = true ∧
    (after (.pilotWindowEnd true 2250000) (windowing (some 3) 1 0 true)).sectionKnown = false ∧
    (after (.pilotWindowEnd false 0) (windowing none 0 9 false)).sgm.lost = true ∧
    (after (.pilotWindowEnd false 0) (windowing none 0 8 false)).sgm.lost = false := by decide

/-- SectionEstablishment: the current code, lost and not, and another code with the gap armed and cut. -/
theorem witness_section : drawing.sgm.currentCode = some 3 ∧ drawing.sgm.lost = false ∧
    ({ drawing.sgm with lost := true } : Sgm).lost = true ∧ drawing.sgm.currentCode ≠ some 5 ∧
    (State.startGapCut drawing).sgm.phase ≠ .disarmed ∧ (State.startGapCut drawing).sgm.cut = true := by decide

/-- R136: a change to a code with no record raises REJOIN and SECTION_UNKNOWN and empties the table. -/
theorem test_section : (drawing.establish 6).cfm.causes =
      { Cfm.atReset.causes with pilotLost := false, sectionUnknown := true, rejoin := true } ∧
    (drawing.establish 6).cfm.level = .solo ∧ (drawing.establish 6).ptb.entries = [] := by decide

/-- The part in a gap phase with a countdown of 100 ms loaded so many ms ago, and both SGM timers as given. -/
def approaching (phase : GapPhase) (ago : Nat) (rejoin grace : Timer) : State :=
  { drawing with sgm := { drawing.sgm with
    phase := phase, cut := phase == .cut, rejoinTimer := rejoin, graceTimer := grace,
    countdown := some { timeToGap := 100, loadedAt := 160 - BitVec.ofNat 32 ago } } }

/-- RejoinAndGapExpiries: each timer due, and a countdown run out in APPROACH and in CUT. -/
theorem witness_gap : ((approaching .approach 100 (some 160) none).held = false ∧
      (approaching .approach 100 (some 160) none).sgm.rejoinTimer = some 160 ∧
      reached (approaching .approach 100 (some 160) none).now 160 = true) ∧
    ((approaching .approach 100 none none).sgm.graceTimer = none ∧ 100 ≤ ((160 : Tick) - (160 - 100)).toNat ∧
      (approaching .approach 100 none none).sgm.phase = .approach ∧ (approaching .cut 100 none none).sgm.phase = .cut) ∧
    (approaching .cut 100 none (some 160)).sgm.graceTimer = some 160 := by decide

/-- R139, R142: REJOIN is cleared, a run-out in APPROACH starts the cut and the grace timer, and a false gap disarms. -/
theorem test_gap : (after .rejoinExpiry (approaching .approach 100 (some 160) none)).sgm.rejoinTimer = none ∧
    (after .countdownRunOut (approaching .approach 100 none none)).sgm.cut = true ∧
    (after .countdownRunOut (approaching .approach 100 none none)).sgm.graceTimer = some (160 + 3000) ∧
    (after .graceExpiry (approaching .cut 100 none (some 160))).sgm.phase = .disarmed ∧
    (after .graceExpiry (approaching .cut 100 none (some 160))).dlk.sticky.falseGap = true := by decide

/-- A GAP frame of a distance and a speed as received. -/
def gapping (s : State) (d1 d0 v1 v0 : Byte) : State := received s (frameBytes 19 [d1, d0, v1, v0])

/-- GapFrames: a distance of 0 with the gap disarmed and armed, and distances of 1 and above. -/
theorem witness_gap_frames : (gapping drawing 0 0 0 5).held = false ∧ (gapping drawing 0 0 0 5).cfl.loader = .ready ∧
    (gapping drawing 0 0 0 5).dlk.rx.frame = some (19, [0, 0, 0, 5]) ∧ (gapping drawing 0 0 0 5).sgm.phase = .disarmed ∧
    (gapping (approaching .cut 0 none none) 0 1 0 5).sgm.phase ≠ .disarmed ∧ 0 < min (256 * 0 + 1) 2000 := by
  decide +kernel

/-- GapFrames: the line is idle at these frame ends. -/
theorem witness_gap_idle (s : State) (d1 d0 v1 v0 : Byte) : (gapping s d1 d0 v1 v0).LineIdle := received_idle ..

/-- R140, R160: 65,535 m at a speed of 0 are clamped to 2,000 m at 0.5 m/s, 4,000,000 ms. -/
theorem test_gap_frames :
    (after .gap (gapping drawing 255 255 0 0)).sgm.countdown = some { timeToGap := 4000000, loadedAt := 160 } ∧
    (after .gap (gapping (approaching .cut 0 none none) 0 0 0 0)).sgm.phase = .disarmed := by decide +kernel

/-- The part at GUARDED or SOLO with its causes cleared and a recovery count, a round in flight on its section. -/
def recovering (level : Level) (count : Nat) : State :=
  { rounding 3 with
    cfm := { (rounding 3).cfm with level := level, recovery := count },
    sre := { Sre.atReset with round := some { roundOf .loadedClimb 180 0 1600 level with
      tags := { sectionIndex := 3, sectionKnown := true, level := level } } } }

/-- LevelMoves: a publication that steps the level up, one that counts, and a clash that drops it. -/
theorem witness_level :
    (∃ t, exec .roundCompletion (recovering .solo 3) = .next t ∧ t.cfm.level = .guarded) ∧
    (∃ t, exec .roundCompletion (recovering .solo 2) = .next t ∧ t.cfm.recovery = 3) ∧
    (∃ t, exec (.pilotWindowEnd false 0) { rounding 3 with
      sgm := { (rounding 3).sgm with noneCount := 9 }, crx := ready.crx } = .next t ∧ t.cfm.level = .solo) ∧
    (∃ t, exec .roundCompletion (recovering .full 3) = .next t ∧ t.sre.published = 1 ∧ t.cfm.recovery = 0) ∧
    (recovering .full 3).cfm.causes.required = (recovering .full 3).cfm.level ∧ resets .roundCompletion = false :=
  ⟨⟨_, rfl, by decide⟩, ⟨_, rfl, by decide⟩, ⟨_, rfl, by decide⟩, ⟨_, rfl, by decide⟩, by decide, rfl⟩

/-! ## Drive link -/

/-- A buffer of so many bytes. -/
def filled (n : Nat) : State := received ready (List.replicate n 0)

/-- FrameReception: buffers of 15 and 16 bytes, one that holds no sound frame, and sound frames of types 16, 22, 17 with
4 bytes, and 20 with 1, in READY and in LOADING. -/
theorem witness_reception : ((filled 15).dlk.rx.bytes.length < 16 ∧ 16 ≤ (filled 16).dlk.rx.bytes.length ∧
      (filled 16).held = false ∧ (filled 3).dlk.rx.frame = none ∧ (filled 3).dlk.rx.bytes ≠ []) ∧
    (received ready (frameBytes 16 [])).dlk.rx.frame = some (16, []) ∧
    (received ready (frameBytes 22 [1])).dlk.rx.frame = some (22, [1]) ∧
    (received ready (frameBytes 17 [1, 2, 3, 4])).dlk.rx.frame = some (17, [1, 2, 3, 4]) ∧
    (received loading (frameBytes 20 [0])).dlk.rx.frame = some (20, [0]) ∧ loading.cfl.loader ≠ .ready ∧
    (received loading (frameBytes 17 [])).dlk.rx.frame = some (17, []) := by decide +kernel

/-- FrameReception: a line that is idle for more than two byte times, one that is not by a crystal cycle, and one on
which a byte is arriving. -/
theorem witness_line : (filled 3).LineIdle ∧ ¬(receivedAgo 1422 ready [0]).LineIdle ∧
    ¬State.LineIdle { ready with dlk := { ready.dlk with rx := { RxBuffer.empty with receiving := true } } } := by
  refine ⟨received_idle .., ?_, fun h => Bool.noConfusion h.1⟩
  rintro ⟨-, e, he, h⟩
  cases he
  exact absurd h (by decide)

/-- R156: a frame ends 1,423 crystal cycles after its last byte and not 1,422, nor while the next byte begins. -/
theorem test_frame_end : (after .frameDropped (receivedAgo 1423 ready [0])).dlk.rx.bytes = [] ∧
    (after .frameDropped (receivedAgo 1422 ready [0])).dlk.rx.bytes = [0] ∧
    (after .frameDropped (after (.byteReceived 0 .begins) (filled 3))).dlk.rx.bytes = [0, 0, 0] ∧
    .query ∈ (received ready (frameBytes 20 [])).dueEvents ∧
    .query ∉ (receivedAgo 1422 ready (frameBytes 20 [])).dueEvents := by decide +kernel

/-- R156, R157: the 17th byte sets the overlong mark, a buffer with no frame is counted, and LIMIT's type is refused
with UNKNOWN_TYPE. -/
theorem test_reception : (after (.byteReceived 1 (.ends false)) (filled 16)).dlk.rx.overlong = true ∧
    (after (.byteReceived 1 (.ends true)) (filled 15)).dlk.rx.byteError = true ∧
    (after .frameDropped (filled 3)).dlk.dropped = 1 ∧
    (after .frameDropped (received ready (frameBytes 33 []))).dlk.sending.map Sending.frame =
      some (.refuse 33 .unknownType) := by decide +kernel

/-- A DEMAND frame as received. -/
def demanding (s : State) (code d1 d0 o1 o0 : Byte) : State := received s (frameBytes 17 [code, d1, d0, o1, o0])

/-- DemandAndLinkTimers: DEMAND with class 5 and class 6 in READY, QUERY in LOADING, and both timers due in ENGAGED and
in STOWED. -/
theorem witness_demand : ((demanding ready 5 0 1 0 2).held = false ∧ (demanding ready 5 0 1 0 2).cfl.loader = .ready ∧
      (demanding ready 5 0 1 0 2).dlk.rx.frame = some (17, [5, 0, 1, 0, 2]) ∧ TruckClass.leaving.code = (5#8).toNat) ∧
    ((demanding ready 6 0 1 0 2).dlk.rx.frame = some (17, [6, 0, 1, 0, 2]) ∧ 5 < (6#8).toNat) ∧
    (received loading (frameBytes 20 [])).dlk.rx.frame = some (20, []) ∧
    (drawing.dlk.silenceTimer = some 160 ∧ drawing.dlk.stowTimer = some 160 ∧ reached drawing.now 160 = true ∧
      drawing.psq.state = .engaged) ∧
    { drawing with psq := ready.psq }.psq.state ≠ .engaged := by decide +kernel

/-- DemandAndLinkTimers: the line is idle at these frame ends. -/
theorem witness_demand_idle (s : State) (code d1 d0 o1 o0 : Byte) (bytes : List Byte) :
    (demanding s code d1 d0 o1 o0).LineIdle ∧ (received s bytes).LineIdle := ⟨received_idle .., received_idle ..⟩

/-- R158: a demand of 65,535 is written as Rt, and silence and the stow condition end; QUERY is answered in LOADING. -/
theorem test_demand :
    (after .demand (demanding ready 3 255 255 0 7)).dlk.own = { cls := .loadedClimb, demand := 200, offer := 7 } ∧
    (after .demand (demanding ready 3 255 255 0 7)).dlk.silence = false ∧
    (after .demand (demanding ready 3 255 255 0 7)).dlk.stowTimer = some (160 + 2000) ∧
    (reported (after .query (received loading (frameBytes 20 [])))).isSome = true := by decide +kernel

/-- `drawing`, whose silence and stow timers run out at one tick, after the silence timer's expiry. -/
def silent : State := after .silenceTimerExpiry drawing

/-- R159: of the two timers that run out at one tick the silence timer's expiry is first, and the stow timer's waits. -/
theorem test_silence_first : (after .stowTimerExpiry drawing).dlk.stow = false ∧
    .stowTimerExpiry ∉ drawing.dueEvents ∧ .silenceTimerExpiry ∈ drawing.dueEvents ∧
    silent.dlk.silence = true ∧ silent.dlk.stowTimer = some 160 ∧ reached silent.now 160 = true ∧
    silent.psq.state = .engaged ∧ .stowTimerExpiry ∈ silent.dueEvents := by decide +kernel

/-- R159, R121, R162: silence caps the target at 0, and the stow timeout takes ENGAGED to CUTTING; a LIMIT frame goes
out at its expiry. -/
theorem test_link_timers : silent.drp.target = 0 ∧
    (after .stowTimerExpiry silent).psq.state = .cutting ∧ (after .stowTimerExpiry silent).dlk.stow = true ∧
    (after .limitTimerExpiry drawing).dlk.sending.map Sending.frame = some (.limit drawing.limitFrame) ∧
    (after .transmitterFree { drawing with dlk := { drawing.dlk with
      sending := some { frame := .refuse 18 .state, startedAt := 0, endsAt := 1 } } }).dlk.sending = none := by decide

/-- StickyFaultsLeaveByReport: a fault held, which the STATUS of a QUERY reports and clears, and one that is set. -/
theorem witness_sticky :
    (∃ t, exec .query (received { drawing with dlk := { drawing.dlk with
        sticky := { StickySet.empty with stuckUp := true } } } (frameBytes 20 [])) = .next t ∧
      t.dlk.sticky.has .stuckUp = false ∧ resets .query = false) ∧
    ∃ t, exec .silenceTimerExpiry drawing = .next t ∧ t.dlk.sticky.has .linkSilent = true ∧
      drawing.dlk.sticky.has .linkSilent = false :=
  ⟨⟨_, answers .., by decide +kernel, rfl⟩, _, answers .., by decide, rfl⟩

/-! ## Layouts and invariants -/

/-- R173: the bits of a notice, written out from the table: station 17, sequence 6, class 3, no flag, demand 450, offer
0, volts 125, pilot 0. -/
theorem test_notice_bits : (noticeOf 17 6 0).body.map Bool.toNat =
    [0, 0, 0, 1, 0, 0, 0, 1, 0, 1, 1, 0, 0, 1, 1, 0, 0, 0, 0, 1, 1, 1, 0, 0, 0, 0, 1, 0,
     0, 0, 0, 0, 0, 0, 0, 0, 0, 0, 1, 1, 1, 1, 1, 0, 1, 0, 0, 0] := by decide

/-- R174, R175: the LIMIT payload of `drawing`: A 100, T 120, grant 120, regen 30, chopper 10, RISING, ENGAGED, FULL,
1,600 V, -2 DU, no collapse. -/
theorem test_limit_payload : drawing.limitFrame.payload.map BitVec.toNat =
    [0, 100, 0, 120, 0, 120, 0, 30, 0, 10, 1, 3, 0, 6, 64, 255, 254, 0] := by decide

/-- R174: the STATUS payload has 19 bytes; of `drawing` the loader byte is 10 hexadecimal and the section byte 83. -/
theorem test_status_payload : drawing.statusFrame.payload.length = 19 ∧
    (drawing.statusFrame.payload.take 6).map BitVec.toNat = [1, 0x10, 0, 0, 0x83, 1] := by decide

/-- NoticesAndFramesReadBack: a buffer that holds the bytes of each outbound frame, and a block of 112 bytes. -/
theorem witness_layouts (f : OutFrame) : (received ready f.bytes).dlk.rx.bytes = f.bytes ∧
    (received ready f.bytes).dlk.rx.overlong = false ∧ (received ready f.bytes).dlk.rx.byteError = false ∧
    (blockWith blockBody 0).length = 112 := ⟨rfl, rfl, rfl, by decide +kernel⟩

/-- OutputsStayInterlocked: `drawing` meets it, in ENGAGED with the chopper running. -/
theorem witness_interlocked : drawing.Interlocked ∧ drawing.ChopperSound :=
  ⟨⟨by decide, by decide, by decide, by decide⟩, ⟨by decide, by decide, by decide, by decide⟩⟩

/-- The part so many crystal cycles into a REFUSE frame. -/
def refusing (cycles : Instant) : State := { ready with dlk := { ready.dlk with sending := some {
  frame := .refuse 18 .state, startedAt := ready.instant - cycles, endsAt := ready.instant } } }

/-- OutputsStayInterlocked: a line with a frame on it, one past its last bit, and one with none. -/
theorem witness_transmit : (refusing 0).dlk.sending.isSome = true ∧
    (OutFrame.refuse 18 .state).bytes[0]? = some 35 ∧
    (569 * (10 * 0 + 9) ≤ 8 * (641 : Nat) ∧ 8 * (641 : Nat) < 569 * (10 * 0 + 9 + 1)) ∧
    569 * (10 * (OutFrame.refuse 18 .state).bytes.length) ≤ 8 * (4268 : Nat) ∧ ready.dlk.sending = none := by
  decide +kernel

/-- R156, R172: REFUSE's type 23 hexadecimal goes out between a start and a stop bit as 1, 1, 0, 0, 0, 1, 0, 0. -/
theorem test_transmit_line : [0, 72, 143, 214, 285, 356, 427, 498, 569, 641].map (fun n => (refusing n).pins.transmit) =
    [false, true, true, false, false, false, true, false, false, true] := by decide +kernel

/-- AppliedLimitStaysBounded: `drawing` meets it with A of 100. -/
theorem witness_bounded : drawing.ReferenceFollows :=
  ⟨by decide, by decide, by decide, by decide, ⟨by decide, by decide, by decide, by decide, by decide⟩⟩

/-- TargetFollowsItsTerms and PartRestsUntilReady: `drawing` meets them. -/
theorem witness_terms : drawing.TermsAgree ∧ drawing.ImageSound :=
  ⟨⟨fun h => absurd rfl h, by decide, by decide, by decide, by decide⟩,
   ⟨by rintro img ⟨⟩; decide, by decide, by decide, by decide, by decide⟩⟩

/-- PartRestsUntilReady: a part that reads its block is at rest. -/
theorem witness_rest : loading.AtRest :=
  ⟨rfl, rfl, rfl, rfl, rfl, rfl, rfl, rfl, rfl, rfl, rfl, by decide, rfl, ⟨rfl, rfl, rfl⟩, by decide, fun _ => rfl,
   ⟨rfl, rfl, rfl⟩, ⟨rfl, rfl⟩, rfl, ⟨rfl, rfl⟩, ⟨rfl, rfl, rfl⟩, rfl⟩

/-- PeerTableStaysSound: `drawing` meets it with an entry on channel 3. -/
theorem witness_table : drawing.TableSound := by
  have h : ∀ ch : Channel, ∀ e ∈ drawing.ptb.slots[ch],
      e = { primary := heard 9 5 100, tally := 2, contender := none } := by decide
  refine ⟨by decide, fun ch e he => ?_, ⟨by decide, by decide⟩, fun k => absurd rfl k⟩
  rw [h ch e he]
  refine ⟨by decide, fun r hr => ?_⟩
  rw [show r = heard 9 5 100 by simpa [PeerEntry.records] using hr]
  exact ⟨by decide, by decide, by decide, by decide, by decide, by decide⟩

/-- ConfidenceStaysSound and BuffersStaySound: `drawing` meets them. -/
theorem witness_confidence : drawing.ConfidenceSound ∧ drawing.CausesFollow ∧ drawing.RingsSound ∧
    drawing.ArcRingSound ∧ drawing.PublishedSound :=
  ⟨(by decide : _ ≤ _), ⟨fun h => absurd rfl h, by decide, by decide, by decide, by decide, by decide⟩,
   ⟨⟨by decide, by decide, by decide, by decide⟩, ⟨by decide, by decide, by decide, by decide⟩⟩,
   ⟨by decide, by decide⟩,
   ⟨by decide, by decide, by decide, by rintro r ⟨⟩, fun h => absurd rfl h⟩⟩

/-- BuffersStaySound: a part at the tick of its voltage conversion, whose step to a new tick needs it done. -/
theorem witness_pairs : (converting 0).PairsTimely ∧ (judging false none none).PairsTimely :=
  ⟨⟨by rintro since ⟨⟩; decide, by rintro since ⟨⟩⟩, ⟨by rintro since ⟨⟩, by rintro since ⟨⟩; exact ⟨0, by decide⟩⟩⟩

/-- BuffersStaySound: a step to a new tick. -/
theorem witness_new_tick : ∃ t, step { State.reset with held := false, tmb := { tick := 0, phase := 8191 } } = .next t ∧
    t.now = 1 := ⟨_, rfl, by decide +kernel⟩

/-- BuffersStaySound: `drawing` meets DLK's laws, with nothing waiting. -/
theorem witness_link : drawing.LinkSound :=
  ⟨by decide, by decide, by decide, by decide, by decide, by decide, by decide⟩

end Sys2Proof.Tests
end

section
/-! PROOFS. The outputs, the chopper and the transmit line: every step keeps them (R91, R93, R114, R156). -/

namespace Sys2Proof.Machine

/-! ## The outputs and the chopper (R91, R93, R114) -/

/-- The two laws of the outputs together: PSQ's as R114 tables them, BCH's as R85, R91 and R93 give them. -/
def State.OutputsSound (s : State) : Prop := s.Interlocked ∧ s.ChopperSound

/-- All that the laws of the outputs read of a state. -/
def State.outputsView (s : State) : Loader × PsqState × (Bool × Bool × Bool × Actuator) × Bch × Bool × Nat × Nat :=
  (s.cfl.loader, s.psq.state, (s.psq.contactor, s.psq.precharge, s.psq.discharge, s.psq.actuator), s.bch, s.sgm.cut,
    s.sre.regen, s.sre.chopper)

/-- A change of anything else keeps the laws of the outputs. -/
theorem State.OutputsSound.congr {s u : State} (h : s.OutputsSound) (view : u.outputsView = s.outputsView) :
    u.OutputsSound := by
  simp only [State.outputsView, Prod.mk.injEq] at view
  obtain ⟨loader, state, ⟨contactor, precharge, discharge, actuator⟩, bch, cut, regen, chopper⟩ := view
  obtain ⟨lock, sound⟩ := h
  refine ⟨⟨?_, ?_, ?_, ?_⟩, ⟨?_, ?_, ?_, ?_⟩⟩
  · rw [contactor, state, lock.contactor]
  · rw [precharge, state, lock.precharge]
  · rw [discharge, state, lock.discharge]
  · rw [loader, actuator, state]; exact lock.actuator
  · rw [bch, state, sound.running]
  · rw [bch]; exact sound.switches
  · rw [bch]; exact sound.stopped
  · rw [bch, state, cut, regen, chopper]; exact sound.inForce

/-- After an event at one of its inputs BCH is sound, whatever it was, as long as its switches were apart (R85, R93). -/
theorem State.refreshChopper_chopperSound {s : State} (apart : (s.bch.dump && s.bch.clamp) = false) :
    s.refreshChopper.ChopperSound := by
  cases closed : s.psq.state.closed with
  | true => constructor <;> simp [State.refreshChopper_bch, closed, apart]
  | false => constructor <;> simp [State.refreshChopper_bch, closed]

/-- An entry to a state sets the outputs by R114's table. -/
theorem State.enterPsq_interlocked (s : State) (st : PsqState) : (s.enterPsq st).Interlocked := by
  constructor <;> simp

namespace State.OutputsSound

variable {s : State}

/-- Every entry to a sequencer state keeps the laws of the outputs (R85, R93, R114, R117). -/
theorem enterPsq (h : s.OutputsSound) (st : PsqState) : (s.enterPsq st).OutputsSound := by
  refine ⟨s.enterPsq_interlocked st, ?_⟩
  unfold State.enterPsq
  apply State.refreshChopper_chopperSound
  split <;> simpa using h.2.switches

/-- A redraw brings the chopper to its changed terms (R85, R98). -/
theorem redraw_of (lock : s.Interlocked) (apart : (s.bch.dump && s.bch.clamp) = false) (cutArrives : Bool) :
    (s.redraw cutArrives).OutputsSound := by
  refine ⟨⟨?_, ?_, ?_, ?_⟩, State.refreshChopper_chopperSound (by simpa using apart)⟩
  · simpa using lock.contactor
  · simpa using lock.precharge
  · simpa using lock.discharge
  · simpa using lock.actuator

theorem recompose (h : s.OutputsSound) (cutArrives : Bool) : (s.recompose cutArrives).OutputsSound :=
  h.congr (by simp [outputsView])

theorem setSticky (h : s.OutputsSound) (f : StickyFault) : (s.setSticky f).OutputsSound := h.congr rfl

theorem raiseCause (h : s.OutputsSound) (c : Cause) : (s.raiseCause c).OutputsSound :=
  h.congr (by simp [outputsView])

theorem clearCause (h : s.OutputsSound) (c : Cause) : (s.clearCause c).OutputsSound :=
  h.congr (by simp [outputsView])

theorem enterCutting (h : s.OutputsSound) : s.enterCutting.OutputsSound := by
  unfold State.enterCutting
  have entered := h.enterPsq .cutting
  dsimp only
  split
  · exact entered.enterPsq .discharge
  · exact entered

theorem enterRetracting (h : s.OutputsSound) : s.enterRetracting.OutputsSound := by
  unfold State.enterRetracting
  have entered := h.enterPsq .retracting
  dsimp only
  split
  · exact entered.enterPsq .stowed
  · exact entered

/-! ### The gap record (R140 to R143) -/

theorem startGapCut (h : s.OutputsSound) : s.startGapCut.OutputsSound :=
  redraw_of (s := { s with sgm := { s.sgm with phase := .cut, cut := true } })
    ⟨h.1.contactor, h.1.precharge, h.1.discharge, h.1.actuator⟩ h.2.switches true

theorem endGapCut (h : s.OutputsSound) : s.endGapCut.OutputsSound := by
  unfold State.endGapCut
  split
  · exact redraw_of (s := { s with sgm := { s.sgm with cut := false } })
      ⟨h.1.contactor, h.1.precharge, h.1.discharge, h.1.actuator⟩ h.2.switches false
  · exact h

theorem disarmGap (h : s.OutputsSound) : s.disarmGap.OutputsSound :=
  (h.congr (u := { s with sgm := { s.sgm with phase := .disarmed, countdown := none, graceTimer := none } })
    rfl).endGapCut

theorem judgeGap (h : s.OutputsSound) : s.judgeGap.OutputsSound := by
  unfold State.judgeGap
  split
  · exact h
  · split
    · exact h.startGapCut
    · exact h

theorem gapFrame (h : s.OutputsSound) (metres speed : Nat) : (s.gapFrame metres speed).OutputsSound := by
  unfold State.gapFrame
  split
  · split
    · exact h.disarmGap
    · exact h
  · exact (h.congr (u := { s with sgm := { s.sgm with
      phase := .approach, graceTimer := none,
      countdown := some { timeToGap := 10000 * metres / speed, loadedAt := s.now } } }) rfl).endGapCut

theorem countdownRunsOut (h : s.OutputsSound) : s.countdownRunsOut.OutputsSound := by
  unfold State.countdownRunsOut
  have started : (if s.sgm.phase = .approach then s.startGapCut else s).OutputsSound := by
    split
    · exact h.startGapCut
    · exact h
  exact started.congr rfl

/-! ### Contact, limits and the arc monitor (R116 to R129) -/

theorem psqContactLost (h : s.OutputsSound) : s.psqContactLost.OutputsSound := by
  unfold State.psqContactLost
  have retried : { s with psq := { s.psq with retry := saturate 3 s.psq.retry } }.OutputsSound := h.congr rfl
  split
  · exact h.enterPsq _
  · exact h.enterPsq _
  · dsimp only
    split
    · exact retried.enterPsq _
    · exact (retried.setSticky _).enterPsq _
  · exact h

theorem contactLost (h : s.OutputsSound) : s.contactLost.OutputsSound := by
  have silenced : s.abortNotice.OutputsSound := h.congr (by simp [outputsView])
  have cut (g : Sgm) : g.contactLost.cut = g.cut := by unfold Sgm.contactLost; split <;> rfl
  exact silenced.psqContactLost.congr (by simp [State.contactLost, outputsView, cut])

theorem psqContactReturned (h : s.OutputsSound) : s.psqContactReturned.OutputsSound := by
  unfold State.psqContactReturned
  split
  · split
    · exact h.enterPsq _
    · exact (h.setSticky _).enterPsq _
  · exact h.enterPsq _
  · exact h.enterPsq _
  · exact h

theorem contactReturned (h : s.OutputsSound) : s.contactReturned.OutputsSound := by
  unfold State.contactReturned
  dsimp only
  split
  · exact h.psqContactReturned.disarmGap
  · exact h.psqContactReturned

/-- In HALTED the table does not bind the actuator: the lower command is removed there (R118). -/
theorem downLimitReached (h : s.OutputsSound) : s.downLimitReached.OutputsSound := by
  unfold State.downLimitReached
  split
  · next halted =>
    exact ⟨⟨h.1.contactor, h.1.precharge, h.1.discharge, fun running => absurd halted running⟩,
      ⟨h.2.running, h.2.switches, h.2.stopped, h.2.inForce⟩⟩
  · split
    · exact h.enterPsq _
    · exact h.enterPsq _
    · exact h

theorem filterEdge (h : s.OutputsSound) (input : FilterId) (level : Bool) :
    (s.filterEdge input level).OutputsSound := by
  cases input with
  | contact =>
    have sampled : { s with psq := { s.psq with contact := s.psq.contact.sample level } }.OutputsSound := h.congr rfl
    simp only [State.filterEdge, State.contactEdge]
    split
    · split
      · exact sampled.contactReturned
      · exact sampled.contactLost
    · exact sampled
  | upLimit => exact h.congr rfl
  | downLimit =>
    have sampled : { s with psq := { s.psq with downLimit := s.psq.downLimit.sample level } }.OutputsSound :=
      h.congr rfl
    simp only [State.filterEdge, State.downLimitEdge]
    split
    · exact sampled.downLimitReached
    · exact sampled

theorem compareArc (h : s.OutputsSound) : s.compareArc.OutputsSound := by
  unfold State.compareArc
  have warned (warn : Bool) : { s with psq := { s.psq with arcWarn := warn } }.OutputsSound := h.congr rfl
  have tripped := (warned true).setSticky .arcTrip
  dsimp only
  split
  · split
    · exact tripped.enterCutting
    · split
      · exact tripped
      · exact tripped.recompose false
  · split
    · exact warned _
    · exact (warned _).recompose false

theorem ringAdvances (h : s.OutputsSound) : s.ringAdvances.OutputsSound := by
  unfold State.ringAdvances
  have timed : { s with psq := { s.psq with ringTimer := s.psq.ringTimer.reload 125 } }.OutputsSound := h.congr rfl
  dsimp only
  split
  · exact timed.compareArc.congr rfl
  · exact timed.congr rfl

/-! ### Rounds, sections and frames -/

theorem noticeExpiry (h : s.OutputsSound) : s.noticeExpiry.OutputsSound := by
  unfold State.noticeExpiry
  set u := State.ntxExpiry { s with ntx := { s.ntx with noticeTimer := s.ntx.noticeTimer.reload s.cfg.period } } with hu
  have silenced : u.OutputsSound := h.congr (by simp [hu, outputsView])
  dsimp only
  unfold State.sreExpiry
  split
  · exact silenced.congr rfl
  · exact redraw_of (s := { u with sre := { u.sre with grant := 0, regen := 0, chopper := 0 } })
      ⟨silenced.1.contactor, silenced.1.precharge, silenced.1.discharge, silenced.1.actuator⟩ silenced.2.switches false

theorem publish (h : s.OutputsSound) (r : Round) : (s.publish r).OutputsSound :=
  redraw_of (s := { s with sre := { s.sre with
      round := none, grant := r.grant s.cfg, regen := r.regenLimit s.cfg, chopper := r.chopperDemand s.cfg,
      derated := decide (r.factor s.cfg < 256), published := s.sre.published + 1 } })
    ⟨h.1.contactor, h.1.precharge, h.1.discharge, h.1.actuator⟩ h.2.switches false

theorem roundEnds (h : s.OutputsSound) : s.roundEnds.OutputsSound := by
  unfold State.roundEnds
  split
  · exact h
  · next r _ =>
    unfold State.completeRound
    dsimp only
    split
    · exact (h.publish r).congr (by simp [outputsView])
    · exact (h.congr (u := s.voidRound) rfl).congr (by simp [outputsView])

theorem changeSection (h : s.OutputsSound) (p : PilotCode) : (s.changeSection p).OutputsSound := by
  unfold State.changeSection
  dsimp only
  split
  · apply disarmGap
    exact h.congr (by simp [outputsView])
  · exact h.congr (by simp [outputsView])

theorem windowEnds (h : s.OutputsSound) (result : Option PilotCode) : (s.windowEnds result).OutputsSound := by
  unfold State.windowEnds
  set u : State := { s with crx := { s.crx with pilotEnd := s.crx.pilotEnd.reload 100 } }
  have reloaded : u.OutputsSound := h.congr rfl
  dsimp only
  split
  · next p =>
    unfold State.windowCode
    have counted : { u with sgm := { u.sgm with stability := saturate 3 u.sgm.stability,
                                                noneCount := 0 } }.OutputsSound :=
      reloaded.congr rfl
    dsimp only
    split
    · split
      · unfold State.establish
        split
        · refine counted.congr ?_
          unfold State.pilotReturned
          split <;> simp [outputsView]
        · exact counted.changeSection p
      · exact counted
    · exact reloaded.congr rfl
  · refine reloaded.congr ?_
    simp only [State.windowNone]
    split <;> simp [outputsView]

theorem rampStep (h : s.OutputsSound) : s.rampStep.OutputsSound := by
  unfold State.rampStep
  dsimp only
  set u := State.handCodeIf _ _ with hu
  have stepped : u.OutputsSound := h.congr (by simp [hu, outputsView])
  unfold State.handZero
  split
  · exact stepped.judgeGap.enterPsq _
  · exact stepped.judgeGap

theorem standStow (h : s.OutputsSound) : s.standStow.OutputsSound := by
  unfold State.standStow
  have stood : { s with dlk := { s.dlk with stow := true, stowTimer := none } }.OutputsSound := h.congr rfl
  dsimp only
  split
  · exact (stood.setSticky _).enterCutting
  · exact stood

/-- A frame end keeps the laws of the outputs where what its frame does keeps them (R156, R157). -/
theorem examine (h : s.OutputsSound) {act : List Byte → State → State}
    (taken : ∀ payload, (act payload s).OutputsSound) : (s.examine act).OutputsSound :=
  State.examine_keeps (fun _ hu => hu.congr rfl) (h.congr rfl) (fun _ _ => h.congr (by simp [outputsView])) taken

theorem refuse (h : s.OutputsSound) (ty : Byte) (r : RefuseReason) : (s.refuse ty r).OutputsSound :=
  h.congr (by simp [outputsView])

theorem raiseFrame (h : s.OutputsSound) : s.raiseFrame.OutputsSound := by
  unfold State.raiseFrame
  split
  · exact h.enterPsq _
  · exact h.congr rfl
  · exact h.refuse ..

theorem lowerTaken (h : s.OutputsSound) : s.lowerTaken.OutputsSound := by
  unfold State.lowerTaken
  split
  · exact h.enterRetracting
  · exact h.enterCutting
  all_goals first | exact h.enterPsq _ | exact h

theorem lowerFrame (h : s.OutputsSound) : s.lowerFrame.OutputsSound := by
  unfold State.lowerFrame
  split
  · exact h.lowerTaken
  · exact h.congr rfl
  · exact h.refuse ..

theorem restartFrame (h : s.OutputsSound) (raw : RawInputs) : (s.restartFrame raw).OutputsSound := by
  unfold State.restartFrame
  split
  · exact ⟨⟨rfl, rfl, rfl, fun _ => rfl⟩, ⟨rfl, rfl, fun _ => ⟨rfl, rfl⟩, rfl⟩⟩
  · exact h.refuse ..

/-! ### Loader, READY and the chopper's counts -/

/-- CFL's entry to HALTED, from which the table no longer binds the actuator (R118, R169). -/
theorem halt (h : s.OutputsSound) (reason : HaltReason) : (s.halt reason).OutputsSound :=
  ⟨⟨h.1.contactor, h.1.precharge, h.1.discharge, fun running => absurd rfl running⟩,
    ⟨h.2.running, h.2.switches, h.2.stopped, h.2.inForce⟩⟩

theorem judgeBlock (h : s.OutputsSound) (block : List Byte) : (s.judgeBlock block).OutputsSound := by
  unfold State.judgeBlock
  have read : { s with cfl := { s.cfl with reading := false } }.OutputsSound := h.congr rfl
  dsimp only
  split
  · split
    · exact h.congr rfl
    · exact read.halt _
  · split
    · exact read.halt _
    · exact h.congr rfl

/-- READY comes from LOADING, where the table binds the actuator as it does from then on (R114, R171). -/
theorem enterReady (h : s.OutputsSound) (loading : s.cfl.loader = .loading) : s.enterReady.OutputsSound := by
  unfold State.enterReady
  dsimp only
  set u := State.withNtx _ _ with hu
  have begun : u.OutputsSound := by
    have bound := h.1.actuator (by simp [loading])
    refine ⟨⟨?_, ?_, ?_, fun _ => ?_⟩, ⟨?_, ?_, ?_, ?_⟩⟩
    · simpa [hu] using h.1.contactor
    · simpa [hu] using h.1.precharge
    · simpa [hu] using h.1.discharge
    · simpa [hu] using bound
    · simpa [hu] using h.2.running
    · simpa [hu] using h.2.switches
    · simpa [hu] using h.2.stopped
    · simpa [hu] using h.2.inForce
  split
  · exact begun
  · exact begun.enterRetracting

/-- A period or a count of it sets the chopper's switches apart again, while it runs (R88, R91). -/
theorem withSwitches (h : s.OutputsSound) (running : s.bch.running = true) {b : Bch}
    (apart : (b.dump && b.clamp) = false) (keeps : b.running = s.bch.running)
    (values : (b.regenInForce, b.chopperInForce) = (s.bch.regenInForce, s.bch.chopperInForce)) :
    { s with bch := b }.OutputsSound :=
  ⟨⟨h.1.contactor, h.1.precharge, h.1.discharge, h.1.actuator⟩,
    ⟨keeps.trans h.2.running, apart, fun off => by simp_all, values.trans h.2.inForce⟩⟩

end State.OutputsSound

/-- The dump is over at the count at which the clamp begins, a dead time later (R91). -/
theorem dumpAt_clampAt (dumpLength deadTime count : Nat) :
    (dumpAt dumpLength count && clampAt dumpLength deadTime count) = false := by
  simp only [dumpAt, clampAt, Bool.and_eq_false_iff, decide_eq_false_iff_not]
  omega

/-- Every command's effect keeps the laws of the outputs. -/
theorem effectOf_outputsSound {c : Instr} {s : State} (h : s.OutputsSound) (occurs : occursAt c s = true) :
    (effectOf c s).OutputsSound := by
  cases c
  case spiReadCompletion block => exact h.judgeBlock block
  case ready =>
    simp only [occursAt, Bool.and_eq_true, beq_iff_eq] at occurs
    exact h.enterReady occurs.1.1
  case noticeTimerExpiry => exact h.noticeExpiry
  case roundCompletion => exact h.roundEnds
  case chopperPeriodStart =>
    simp only [occursAt, Bool.and_eq_true] at occurs
    exact h.withSwitches occurs.1 (dumpAt_clampAt ..) rfl rfl
  case chopperCount =>
    simp only [occursAt, Bool.and_eq_true] at occurs
    exact h.withSwitches occurs.1.1.1.1 (dumpAt_clampAt ..) rfl rfl
  case contactStrobe contact =>
    refine h.congr ?_
    simp only [effectOf, Psq.contactSample]
    split <;> rfl
  case pilotWindowEnd => exact h.windowEnds _
  case rejoinExpiry => exact h.congr (by simp [effectOf, State.endRejoin, State.outputsView])
  case countdownRunOut => exact h.countdownRunsOut
  case graceExpiry => exact (h.setSticky _).disarmGap
  case gap => exact h.examine fun payload => h.gapFrame ..
  case rampStep => exact h.rampStep
  case contactLoss => exact h.filterEdge .contact false
  case contactReturn => exact h.filterEdge .contact true
  case downLimit => exact h.filterEdge .downLimit true
  case filterEdge input level => exact h.filterEdge input level
  case raiseTimeout => exact (h.setSticky _).enterRetracting
  case prechargeExpiry =>
    simp only [effectOf, State.prechargeDone]
    split
    · exact (h.setSticky _).enterPsq _
    · exact h.enterPsq _
  case reacquireExpiry => exact (h.setSticky _).enterPsq _
  case coastExpiry => exact h.enterPsq _
  case dischargeExpiry => exact h.enterRetracting
  case retractTimeout => exact (h.setSticky _).enterPsq _
  case ringAdvance => exact h.ringAdvances
  case pantoRaise => exact h.examine fun _ => h.raiseFrame
  case pantoLower => exact h.examine fun _ => h.lowerFrame
  case restart raw => exact h.examine fun _ => h.restartFrame raw
  case stowTimerExpiry => exact h.standStow
  case loaderRetryExpiry => exact h.congr rfl
  all_goals
    refine h.congr ?_
    simp only [State.outputsView]
    rw [effectOf_cfl rfl, effectOf_psq rfl, effectOf_bch rfl, effectOf_sgm rfl, effectOf_sre rfl]

/-- The part that a reset holds has its outputs off and its chopper stopped (R170). -/
theorem heldInReset_outputsSound (cause : ResetCause) (fresh : Nat) (pending : List Instr) :
    (State.heldInReset cause fresh pending).OutputsSound :=
  ⟨⟨rfl, rfl, rfl, fun _ => rfl⟩, ⟨rfl, rfl, fun _ => ⟨rfl, rfl⟩, rfl⟩⟩

/-- Every command keeps the laws of the outputs. -/
theorem exec_outputsSound {c : Instr} {s t : State} (h : s.OutputsSound) (hx : exec c s = .next t) :
    t.OutputsSound := by
  rcases exec_cases hx with rfl | reset | ⟨-, -, occurs, rfl⟩
  · exact h
  · cases c <;> simp only [holdsReset, Bool.false_eq_true] at reset
    case powerOn => cases hx; exact heldInReset_outputsSound ..
    case pinReset => cases hx; exact heldInReset_outputsSound ..
    case resetEnd raw =>
      simp only [exec, execResetEnd] at hx
      split at hx <;> cases hx
      · exact ⟨⟨rfl, rfl, rfl, fun _ => rfl⟩, ⟨rfl, rfl, fun _ => ⟨rfl, rfl⟩, rfl⟩⟩
      · exact h
  · exact (effectOf_outputsSound h occurs).congr (by simp [State.outputsView])

/-! ## The transmit line (R156, R172) -/

/-- While a bit of a byte is sent, the line stands at that bit: the start bit low, the data bits from the least
significant, the stop bit high. -/
theorem Sending.line_during {f : Sending} {now : Instant} {i bit : Nat} {byte : Byte}
    (sent : f.frame.bytes[i]? = some byte) (inByte : bit < 10)
    (begun : 569 * (10 * i + bit) ≤ 8 * (now - f.startedAt).toNat)
    (ending : 8 * (now - f.startedAt).toNat < 569 * (10 * i + bit + 1)) :
    f.line now = if bit = 0 then false else if bit = 9 then true else byte.getLsbD (bit - 1) := by
  have count : (now - f.startedAt).toNat * 8 / 569 = 10 * i + bit := by omega
  have place : (10 * i + bit) / 10 = i := by omega
  have within : (10 * i + bit) % 10 = bit := by omega
  simp only [Sending.line, count, place, within, sent]

/-- After the last byte's stop bit the line stands high. -/
theorem Sending.line_after {f : Sending} {now : Instant}
    (past : 569 * (10 * f.frame.bytes.length) ≤ 8 * (now - f.startedAt).toNat) : f.line now = true := by
  have ended : f.frame.bytes[(now - f.startedAt).toNat * 8 / 569 / 10]? = none :=
    List.getElem?_eq_none (by omega)
  simp only [Sending.line, ended]

/-- The transmit pin is the line of the frame being sent. -/
theorem State.pins_transmit {s : State} {f : Sending} (sending : s.dlk.sending = some f) :
    s.pins.transmit = f.line s.instant := by
  simp [State.pins, sending]

/-- Settles O54: the invariant by the step lemma of `State.OutputsSound`, the pins block by block, and the transmit
line by the place of the bit in its byte. -/
theorem outputsStayInterlocked : Obligations.OutputsStayInterlocked := by
  refine ⟨kept_of_exec (fun s h => ?_) (fun s q h => ?_) (fun c s t h hx => exec_outputsSound h hx), fun s => ?_⟩
  · exact State.OutputsSound.congr h (by simp [State.outputsView])
  · exact State.OutputsSound.congr h rfl
  · refine ⟨rfl, rfl, rfl, by simp [State.pins], by simp [State.pins], rfl, rfl, rfl, by simp [State.pins],
      by simp [State.pins], rfl, fun idle => by simp [State.pins, idle], fun f sending => ?_⟩
    rw [State.pins_transmit sending]
    refine ⟨Sending.line_after, fun i byte sent => ⟨fun bit => ?_, fun b small bit => ?_, fun bit => ?_⟩⟩
    · rw [Sending.line_during sent (by omega) bit.1 bit.2]; rfl
    · rw [Sending.line_during sent (by omega) bit.1 bit.2, if_neg (by omega), if_neg (by omega), Nat.add_sub_cancel]
    · rw [Sending.line_during sent (by omega) bit.1 bit.2]; rfl

end Sys2Proof.Machine
end

section
/-! PROOFS. The peer table: every step keeps its records in range (R15, R24, R25, R28). -/

namespace Sys2Proof.Machine

/-! ## Entries (R24, R29 to R39) -/

/-- An entry as PTB may hold it: its tally in range and each of its records sound (R24). -/
def PeerEntry.Sound (e : PeerEntry) (ownId : Nat) : Prop := e.tally ≤ 15 ∧ ∀ r ∈ e.records, r.sound ownId

/-- An entry is sound where its tally is in range, its primary is sound, and so is its contender. -/
theorem PeerEntry.sound_iff (e : PeerEntry) (ownId : Nat) : e.Sound ownId ↔
    e.tally ≤ 15 ∧ e.primary.sound ownId ∧ ∀ c, e.contender = some c → c.sound ownId := by
  simp [PeerEntry.Sound, PeerEntry.records]

/-- A record written from a notice that passed the field tests and bears another station's id is sound (R12, R24). -/
theorem PeerRecord.ofNotice_sound {n : Notice} {ownId : Nat} (arrival : Tick) (pass : n.fieldsPass = true)
    (other : n.station.toNat ≠ ownId) : (PeerRecord.ofNotice n arrival).sound ownId := by
  simp only [Notice.fieldsPass, Bool.and_eq_true, bne_iff_ne, ne_eq] at pass
  obtain ⟨⟨notZero, notAll⟩, -⟩ := pass
  have positive : n.station.toNat ≠ 0 := fun e => notZero (BitVec.eq_of_toNat_eq e)
  have below : n.station.toNat ≠ 255 := fun e => notAll (BitVec.eq_of_toNat_eq e)
  have wide := n.station.isLt
  have volts := n.volts.isLt
  simp only [PeerRecord.sound, PeerRecord.ofNotice, heardClamp]
  omega

/-- A loss tally stays within 15 (R30). -/
theorem tallyAfter_le {tally : Nat} (gap : Nat) (bound : tally ≤ 15) : tallyAfter tally gap ≤ 15 := by
  unfold tallyAfter
  split <;> omega

/-- The acceptance of a sound record leaves a sound entry (R29 to R33). -/
theorem acceptRecord_sound {img : Image} {now : Tick} {slot : Option PeerEntry} {r : PeerRecord} {ownId : Nat}
    (held : ∀ e, slot = some e → e.Sound ownId) (heard : r.sound ownId) :
    (acceptRecord img now slot r).Sound ownId := by
  cases slot with
  | none => simp [acceptRecord, PeerEntry.sound_iff, heard]
  | some e =>
    obtain ⟨tally, primary, contender⟩ := (e.sound_iff ownId).mp (held e rfl)
    have renewed : { e with contender := some r }.Sound ownId := by simp [PeerEntry.sound_iff, tally, primary, heard]
    simp only [acceptRecord]
    split
    · simp only [PeerEntry.sound_iff]
      exact ⟨tallyAfter_le _ tally, heard, contender⟩
    · split
      · simp [PeerEntry.sound_iff, heard]
      · split
        · exact renewed
        · split
          · exact renewed
          · split
            · simp only [PeerEntry.sound_iff]
              exact ⟨Nat.zero_le _, heard, contender⟩
            · exact renewed

/-- What a sweep leaves of a sound entry is sound (R39). -/
theorem sweepEntry_sound {img : Image} {now : Tick} {e swept : PeerEntry} {ownId : Nat} (held : e.Sound ownId)
    (left : sweepEntry img now e = some swept) : swept.Sound ownId := by
  obtain ⟨tally, primary, contender⟩ := (e.sound_iff ownId).mp held
  simp only [sweepEntry] at left
  split at left
  · obtain ⟨c, survives, rfl⟩ := Option.map_eq_some_iff.mp left
    obtain ⟨was, -⟩ := Option.filter_eq_some_iff.mp survives
    simp [PeerEntry.sound_iff, contender c was]
  · cases left
    refine (PeerEntry.sound_iff ..).mpr ⟨tally, primary, fun c survives => ?_⟩
    exact contender c (Option.filter_eq_some_iff.mp survives).1

/-! ## The table (R25, R28) -/

/-- All that the law of the peer table reads of a state. -/
def State.tableView (s : State) :
    Loader × Option Image × Vector (Option PeerEntry) 16 × Vector Nat 16 × Nat :=
  (s.cfl.loader, s.cfl.image, s.ptb.slots, s.ptb.errors, s.ptb.foreign)

namespace State.TableSound

variable {s u : State}

/-- A change of anything else keeps the law of the peer table. -/
theorem congr (h : s.TableSound) (view : u.tableView = s.tableView) : u.TableSound := by
  simp only [tableView, Prod.mk.injEq] at view
  obtain ⟨loader, image, slots, errors, foreign⟩ := view
  have cfg : u.cfg = s.cfg := by simp [State.cfg, image]
  refine ⟨?_, ?_, ?_, ?_⟩
  · simp only [cfg, slots]; exact h.ownChannel
  · rw [cfg, slots]; exact h.records
  · rw [foreign, errors]; exact h.tallies
  · rw [loader, slots]; exact h.empty

/-- An entry of the table is sound. -/
theorem entry (h : s.TableSound) {ch : Channel} {e : PeerEntry} (stands : s.ptb.slots[ch] = some e) :
    e.Sound s.cfg.stationId := h.records ch e stands

/-- A table without entries is sound, whatever the image, while its tallies are in range (R41). -/
theorem of_empty (none : ∀ ch : Channel, u.ptb.slots[ch] = none)
    (tallies : u.ptb.foreign ≤ 255 ∧ ∀ ch : Channel, u.ptb.errors[ch] ≤ 255) : u.TableSound where
  ownChannel := none _
  records ch e stands := by rw [none ch] at stands; cases stands
  tallies := tallies
  empty _ := none

/-- PTB's reset values (R15, R41). -/
theorem of_atReset (reset : u.ptb = .atReset) : u.TableSound :=
  of_empty (by simp [reset, Ptb.atReset]) (by simp [reset, Ptb.atReset])

/-- A change of the entries keeps the law where each is sound, the own channel has none, and none comes before READY. -/
theorem withSlots (h : s.TableSound) {slots : Vector (Option PeerEntry) 16} {sweepTimer : Timer}
    (own : slots[s.cfg.ownChannel] = none)
    (sound : ∀ (ch : Channel) (e : PeerEntry), slots[ch] = some e → e.Sound s.cfg.stationId)
    (ready : s.cfl.loader ≠ .ready → ∀ ch : Channel, slots[ch] = none) :
    { s with ptb := { s.ptb with slots := slots, sweepTimer := sweepTimer } }.TableSound where
  ownChannel := own
  records := sound
  tallies := h.tallies
  empty := ready

/-- The transmitter's choice at most sets the tallies to 0 (R15, R161). -/
theorem settle (h : s.TableSound) : s.settle.TableSound := by
  rcases State.settle_cases s with ⟨-, e⟩ | ⟨-, f, -, e⟩ | ⟨-, -, ty, r, rest, -, e⟩ | ⟨-, -, -, -, e⟩ |
    ⟨-, -, -, -, e⟩ <;> rw [e]
  · exact h
  · exact h.congr rfl
  · exact h.congr rfl
  · exact ⟨h.ownChannel, h.records, ⟨Nat.zero_le _, fun ch => by simp [composedStatus, startSending]⟩, h.empty⟩
  · exact h

theorem countError (h : s.TableSound) (ch : Channel) : (s.countError ch).TableSound where
  ownChannel := h.ownChannel
  records := h.records
  empty := h.empty
  tallies := by
    refine ⟨h.tallies.1, fun other => ?_⟩
    have bound := h.tallies.2 other
    simp only [State.countError, saturate, Fin.getElem_fin, Vector.getElem_set] at bound ⊢
    split <;> omega

theorem countForeign (h : s.TableSound) : s.countForeign.TableSound :=
  ⟨h.ownChannel, h.records, ⟨Nat.min_le_left .., h.tallies.2⟩, h.empty⟩

theorem flushPeers (h : s.TableSound) : s.flushPeers.TableSound :=
  of_empty (fun ch => by simp [State.flushPeers]) h.tallies

/-- A delivery from a peer channel enters a sound record there (R28 to R33). -/
theorem peerDelivery (h : s.TableSound) {ch : Channel} {n : Notice} (ready : s.isReady = true)
    (peer : ch ≠ s.cfg.ownChannel) (pass : n.fieldsPass = true) : (s.peerDelivery ch n).TableSound := by
  unfold State.peerDelivery
  split
  · exact h.congr rfl
  · next other =>
    have heard := PeerRecord.ofNotice_sound s.now pass other
    refine h.withSlots ?_ (fun at' e stands => ?_) (fun loading => ?_)
    · have apart : ch.val ≠ s.cfg.ownChannel.val := fun same => peer (Fin.ext same)
      simpa [Vector.getElem_set, apart] using h.ownChannel
    · simp only [Fin.getElem_fin, Vector.getElem_set] at stands
      split at stands
      · cases stands; exact acceptRecord_sound (fun e' stood => h.entry stood) heard
      · exact h.entry stands
    · simp [State.isReady] at ready; exact absurd ready loading

/-- The check of a completed frame counts, delivers, or enters a peer's record (R12 to R15, R28). -/
theorem checkRecord (h : s.TableSound) (ready : s.isReady = true) (ch : Channel) (bits : List Bool) :
    (s.checkRecord ch bits).TableSound := by
  have delivered (n : Notice) : (s.ownDelivery n).TableSound := h.congr (by simp [tableView])
  unfold State.checkRecord
  dsimp only
  split
  · exact h.countError ch
  · next passes =>
    split
    · exact delivered _
    · split
      · exact h.countForeign
      · split
        · exact delivered _
        · next peer =>
          simp only [Bool.or_eq_true, Bool.not_eq_true', not_or, Bool.not_eq_false] at passes
          exact h.peerDelivery ready (by simpa using peer) passes.2

theorem decideSymbol (h : s.TableSound) (ready : s.isReady = true) (ch : Channel) (d : Symbol) :
    (s.decideSymbol ch d).TableSound := by
  have placed (c : RxContext) : (s.withContext ch c).TableSound := h.congr rfl
  unfold State.decideSymbol
  dsimp only
  split
  · split
    · exact h.congr (by simp [tableView])
    · exact placed _
  · split
    · exact placed _
    · split
      · exact placed _
      · split
        · exact placed _
        · exact h.congr rfl
  · split
    · exact (placed _).countError ch
    · split
      · exact (placed _).checkRecord (by simpa using ready) ch _
      · exact placed _

theorem sweepTable (h : s.TableSound) : s.sweepTable.TableSound := by
  refine h.withSlots ?_ (fun ch e stands => ?_) (fun loading ch => ?_)
  · have own := h.ownChannel
    simp only [Fin.getElem_fin] at own
    simp [own]
  · simp only [Fin.getElem_fin, Vector.getElem_map] at stands
    obtain ⟨was, stood, left⟩ := Option.bind_eq_some_iff.mp stands
    exact sweepEntry_sound (h.entry stood) left
  · have empty := h.empty loading ch
    simp only [Fin.getElem_fin] at empty
    simp [empty]

theorem changeSection (h : s.TableSound) (p : PilotCode) : (s.changeSection p).TableSound := by
  unfold State.changeSection
  dsimp only
  set u := State.flushPeers _ with hu
  have flushed : u.TableSound := by
    rw [hu]
    exact flushPeers (h.congr (by simp [tableView]))
  split
  · exact flushed.congr (by simp [tableView])
  · exact flushed.congr (by simp [tableView])

/-- A pilot window changes the table where it establishes another section's code (R134, R136). -/
theorem windowEnds (h : s.TableSound) (result : Option PilotCode) : (s.windowEnds result).TableSound := by
  unfold State.windowEnds
  set u : State := { s with crx := { s.crx with pilotEnd := s.crx.pilotEnd.reload 100 } }
  have reloaded : u.TableSound := h.congr rfl
  dsimp only
  split
  · next p =>
    unfold State.windowCode
    have counted : { u with sgm := { u.sgm with stability := saturate 3 u.sgm.stability,
                                                noneCount := 0 } }.TableSound :=
      reloaded.congr rfl
    dsimp only
    split
    · split
      · unfold State.establish
        split
        · exact counted.congr (by simp [tableView])
        · exact counted.changeSection p
      · exact counted
    · exact reloaded.congr rfl
  · exact reloaded.congr (by simp [tableView])

/-- Before READY the table is empty, so that a loaded image, with another own channel, finds it so (R25, R168). -/
theorem judgeBlock (h : s.TableSound) (loading : s.cfl.loader = .loading) (block : List Byte) :
    (s.judgeBlock block).TableSound :=
  of_empty (by simpa using h.empty (by simp [loading])) (by simpa using h.tallies)

theorem enterReady (h : s.TableSound) (loading : s.cfl.loader = .loading) : s.enterReady.TableSound := by
  have slots : s.enterReady.ptb.slots = s.ptb.slots ∧ s.enterReady.ptb.errors = s.ptb.errors ∧
      s.enterReady.ptb.foreign = s.ptb.foreign := by
    simp only [State.enterReady]
    split <;> simp [startTimers, triggerStatus]
  obtain ⟨slots, errors, foreign⟩ := slots
  refine of_empty (fun ch => ?_) ?_
  · rw [slots]; exact h.empty (by simp [loading]) ch
  · rw [errors, foreign]; exact h.tallies

theorem restartFrame (h : s.TableSound) (raw : RawInputs) : (s.restartFrame raw).TableSound := by
  unfold State.restartFrame
  split
  · exact of_atReset rfl
  · exact h.congr (by simp [tableView])

end State.TableSound

/-- A context takes a decision from READY on only (R7). -/
theorem State.takesDecision_ready {s : State} {ch : Channel} (h : s.takesDecision ch = true) : s.isReady = true := by
  simp only [State.takesDecision, Bool.and_eq_true] at h
  exact h.1

/-- Every command's effect keeps the law of the peer table. -/
theorem effectOf_tableSound {c : Instr} {s : State} (h : s.TableSound) (occurs : occursAt c s = true) :
    (effectOf c s).TableSound := by
  cases c
  case spiReadCompletion block =>
    simp only [occursAt, Bool.and_eq_true, beq_iff_eq] at occurs
    exact h.judgeBlock occurs.1.1 block
  case ready =>
    simp only [occursAt, Bool.and_eq_true, beq_iff_eq] at occurs
    exact h.enterReady occurs.1.1
  case symbolDecision => exact h.decideSymbol (State.takesDecision_ready occurs) ..
  case syncEntry =>
    simp only [occursAt, Bool.and_eq_true] at occurs
    exact h.decideSymbol (State.takesDecision_ready occurs.1.1) ..
  case frameAbandon =>
    simp only [occursAt, Bool.and_eq_true] at occurs
    exact h.decideSymbol (State.takesDecision_ready occurs.1) ..
  case noticeReceived =>
    simp only [occursAt, Bool.and_eq_true] at occurs
    exact h.decideSymbol (State.takesDecision_ready occurs.1.1) ..
  case sweep => exact h.sweepTable
  case pilotWindowEnd => exact h.windowEnds _
  case restart raw =>
    exact State.examine_keeps (fun _ hu => hu.congr rfl) (h.congr rfl) (fun _ _ => h.congr (by simp [State.tableView]))
      (fun _ => h.restartFrame raw)
  case restartTimerStart => exact h.congr rfl
  case loaderRetryExpiry => exact h.congr rfl
  all_goals
    refine h.congr ?_
    simp only [State.tableView]
    rw [effectOf_cfl rfl, effectOf_ptb rfl]

/-- Every command keeps the law of the peer table. -/
theorem exec_tableSound {c : Instr} {s t : State} (h : s.TableSound) (hx : exec c s = .next t) : t.TableSound := by
  rcases exec_cases hx with rfl | reset | ⟨-, -, occurs, rfl⟩
  · exact h
  · cases c <;> simp only [holdsReset, Bool.false_eq_true] at reset
    case powerOn => cases hx; exact .of_atReset rfl
    case pinReset => cases hx; exact .of_atReset rfl
    case resetEnd raw =>
      simp only [exec, execResetEnd] at hx
      split at hx <;> cases hx
      · exact .of_atReset rfl
      · exact h
  · exact (effectOf_tableSound h occurs).settle

/-- Settles O58: idle moments do not touch the table, and every command's effect keeps it. -/
theorem peerTableStaysSound : Obligations.PeerTableStaysSound :=
  kept_of_exec (fun _ h => h.congr (by simp [State.tableView])) (fun _ _ h => h.congr rfl)
    (fun _ _ _ h hx => exec_tableSound h hx)

end Sys2Proof.Machine
end

section
/-! PROOFS. Resets, idle moments and the transmitter's choice (R161 to R163, R166, R167, R170). -/

namespace Sys2Proof.Machine

/-! ## Resets (R167, R170) -/

/-- What a reset holds, every block has at its reset values, and so has it where the reset's end changes nothing but
CFL and PSQ, which takes its raw levels (R113, R167). -/
theorem heldInReset_atResetValues (cause : ResetCause) (fresh : Nat) (pending : List Instr) (held : Bool) (cfl : Cfl)
    (raw : RawInputs) (ring : Timer) :
    State.AtResetValues { State.heldInReset cause fresh pending with
      held := held, cfl := cfl, psq := .atReset raw ring } where
  contexts ch := by simp [Crx.atReset, RxContext.atReset]
  transmitter := ⟨rfl, rfl, rfl, rfl, rfl, rfl, rfl, rfl⟩
  table := ⟨fun ch => by simp [Ptb.atReset], rfl⟩
  rounds := rfl
  confidence := ⟨fun c => by cases c <;> rfl, rfl, rfl⟩
  measurement := ⟨rfl, rfl, rfl, rfl, rfl, rfl, rfl, rfl, rfl, rfl, rfl⟩
  draw := ⟨rfl, rfl, rfl, rfl, rfl, rfl, rfl, rfl⟩
  reference := ⟨rfl, rfl, rfl, rfl, rfl⟩
  chopper := ⟨rfl, rfl, rfl, rfl, rfl, rfl, rfl, rfl⟩
  sequencer := ⟨rfl, rfl, rfl, rfl, rfl, rfl, rfl, rfl, rfl, rfl⟩
  identity := ⟨rfl, rfl, rfl, rfl, rfl, rfl, rfl, rfl⟩
  gap := ⟨rfl, rfl, rfl, rfl⟩
  link := ⟨rfl, rfl, rfl, rfl, rfl, rfl, fun f => by cases f <;> rfl, rfl, rfl, rfl, rfl⟩
  timers := ⟨rfl, rfl, rfl, rfl, rfl⟩

/-- Settles O4: each of the three commands answers the part held in reset, or that part at the reset's end. -/
theorem powerAndPinResets : Obligations.PowerAndPinResets := by
  intro s
  have reset (cause : ResetCause) : (State.heldInReset cause s.fresh s.pending).AtResetValues :=
    heldInReset_atResetValues cause s.fresh s.pending true .atReset _ none
  refine ⟨⟨_, rfl, reset _, rfl, rfl, rfl, rfl, rfl, rfl⟩, fun dip => ?_, fun raw held => ?_⟩
  · refine ⟨_, rfl, reset _, rfl, rfl, rfl, ?_, rfl, rfl⟩
    cases dip <;> rfl
  · have ends : exec (.resetEnd raw) s = .next { State.heldInReset s.dlk.resetCause s.fresh s.pending with
        held := false, cfl := { Cfl.atReset with reading := true }, psq := .atReset raw (.start 0 125) } := by
      simp only [exec, execResetEnd, held, if_true]
    refine ⟨_, ends, heldInReset_atResetValues .., rfl, rfl, rfl, fun cause => ?_, rfl, rfl, rfl, rfl, rfl, rfl, rfl⟩
    simp [Dlk.atReset, cause]

/-! ## The transmitter's choice (R161 to R163) -/

/-- The entries of the table without their channels, in ascending channel order. -/
theorem Ptb.entries_map_snd (p : Ptb) :
    p.entries.map Prod.snd = (List.finRange 16).filterMap (fun ch => p.slots[ch]) := by
  simp only [Ptb.entries, List.map_filterMap, Option.map_map]
  congr 1
  funext ch
  cases p.slots[ch] <;> rfl

/-- The sum of the sixteen channel error tallies (R15). -/
theorem errorSum_finRange (errors : Vector Nat 16) :
    ((List.finRange 16).map (fun ch => errors[ch])).sum = errors.toList.sum := by
  congr 1
  apply List.ext_getElem <;> simp

/-- What STATUS reports of the table, from its entries alone (R37). -/
theorem State.statusFrame_eq (s : State) :
    let entries : List PeerEntry := (List.finRange 16).filterMap (fun ch => s.ptb.slots[ch])
    let live : List PeerRecord := (entries.flatMap (fun e => e.primary :: e.contender.toList)).filter
      (fun r => decide (r.freshness s.cfg s.now ≠ .stale))
    s.statusFrame = {
      resetCause := s.dlk.resetCause, loader := s.cfl.loader, haltReason := s.cfl.haltReason, causes := s.cfm.causes,
      sticky := s.dlk.sticky, sectionKnown := s.sectionKnown, sectionIndex := s.sectionIndex,
      entryCount := entries.length,
      contestedCount := entries.countP (fun e => decide (e.contender ≠ none)),
      reducedCount := live.countP (fun r => r.flags.guarded || r.flags.solo),
      deratedCount := live.countP (fun r => r.flags.derated),
      errorSum := ((List.finRange 16).map (fun ch => s.ptb.errors[ch])).sum, foreign := s.ptb.foreign,
      transmitter := s.ntx.state, ownSeq := s.ntx.seq, dropped := s.dlk.dropped, published := s.sre.published,
      voided := s.sre.voided, last := s.drp.last, sequencer := s.psq.state, level := s.cfm.level } := by
  intro entries live
  have listed : s.ptb.entries.map Prod.snd = entries := s.ptb.entries_map_snd
  have count : s.ptb.entries.length = entries.length := by rw [← listed, List.length_map]
  have contested : s.ptb.entries.countP (fun e => e.2.contender.isSome) =
      entries.countP (fun e => decide (e.contender ≠ none)) := by
    rw [← listed, List.countP_map]
    congr 1
    funext e
    cases h : e.2.contender <;> simp [h]
  have alive : s.liveRecords = live := by
    simp only [State.liveRecords, live, ← listed, List.flatMap_map, PeerEntry.records]
    congr 1
    funext r
    cases r.freshness s.cfg s.now <;> rfl
  simp only [State.statusFrame, count, contested, alive, errorSum_finRange]

/-- Settles O6: the transmitter's choice by the source that it finds first, and the two events of the transmitter. -/
theorem transmitterServesByPriority : Obligations.TransmitterServesByPriority := by
  intro s entries live report sends
  have status : s.statusFrame = report := s.statusFrame_eq
  refine ⟨fun busy => ?_, fun free => ⟨fun f limit => ?_, fun noLimit => ⟨fun ty reason rest refused => ?_,
    fun noRefusal => ⟨fun quiet => ?_, fun pending => ?_⟩⟩⟩,
    fun running => ⟨fun f sending ended => ?_, fun due timer run => ?_⟩⟩
  · simp [State.settle, Option.isSome_iff_ne_none.mpr busy]
  · simp [State.settle, free, limit, sends, State.startSending, sendingCycles, State.instant]
  · simp [State.settle, free, noLimit, refused, sends, State.startSending, sendingCycles, State.instant]
  · simp [State.settle, free, noLimit, noRefusal, quiet]
  · rw [← status]
    simp [State.settle, free, noLimit, noRefusal, pending, sends, State.startSending, State.composedStatus,
      sendingCycles, State.instant, StickySet.empty]
  · exact exec_of_occurs rfl running (by simp [occursAt, State.sendingEnds, sending, ended])
  · rw [exec_of_occurs (c := .limitTimerExpiry) rfl running ((Timer.due_iff ..).mpr ⟨due, timer, run⟩)]
    simp [effectOf, State.composeLimit, State.limitFrame, timer, Timer.reload]

end Sys2Proof.Machine
end

section
/-! PROOFS. Idle moments (R3, R156, R166). -/

namespace Sys2Proof.Machine

/-! ## Which events are due (R156, R166) -/

/-- The frame of a buffer belongs to the row of its type and request byte, or to FRAME_DROPPED (log entry 13). -/
theorem RxBuffer.row_eq_iff (rx : RxBuffer) (row : FrameRow) : rx.row = row ↔
    match row with
    | .demand => ∃ f, rx.frame = some f ∧ f.1 = 17
    | .pantoRaise => ∃ f, rx.frame = some f ∧ f.1 = 18 ∧ f.2.head? = some 1
    | .pantoLower => ∃ f, rx.frame = some f ∧ f.1 = 18 ∧ f.2.head? = some 2
    | .pantoBadValue => ∃ f, rx.frame = some f ∧ f.1 = 18 ∧ f.2.head? ≠ some 1 ∧ f.2.head? ≠ some 2
    | .gap => ∃ f, rx.frame = some f ∧ f.1 = 19
    | .query => ∃ f, rx.frame = some f ∧ f.1 = 20
    | .restart => ∃ f, rx.frame = some f ∧ f.1 = 21
    | .dropped => ∀ f, rx.frame = some f → f.1.toNat < 17 ∨ 21 < f.1.toNat := by
  unfold RxBuffer.row
  cases rx.frame with
  | none => cases row <;> simp
  | some f =>
    obtain ⟨ty, payload⟩ := f
    simp only [typeDemand, typePanto, typeGap, typeQuery, typeRestart, Option.some.injEq, exists_eq_left',
      forall_eq']
    by_cases h17 : ty = 17#8
    · subst h17; cases row <;> simp
    by_cases h18 : ty = 18#8
    · subst h18
      cases payload with
      | nil => cases row <;> simp
      | cons request rest =>
        by_cases h1 : request = 1#8
        · subst h1; cases row <;> simp
        by_cases h2 : request = 2#8
        · subst h2; cases row <;> simp
        cases row <;> simp [h1, h2]
    by_cases h19 : ty = 19#8
    · subst h19; cases row <;> simp
    by_cases h20 : ty = 20#8
    · subst h20; cases row <;> simp
    by_cases h21 : ty = 21#8
    · subst h21; cases row <;> simp
    have other : ty.toNat < 17 ∨ 21 < ty.toNat := by bv_omega
    cases row <;> simp [h17, h18, h19, h20, h21, other]

/-- The line is idle for a frame end (R156). -/
theorem State.lineIdle_iff (s : State) : s.dlk.rx.idle s.instant = true ↔ s.LineIdle := RxBuffer.idle_iff ..

/-- The state timer expires in one state, where it has run out (R115). -/
theorem State.timerExpires_iff (s : State) (st : PsqState) : s.timerExpires st = true ↔
    s.psq.state = st ∧ ∃ expiry : Tick, s.psq.stateTimer = some expiry ∧ reached s.now expiry = true := by
  simp [State.timerExpires, Timer.due_iff]

/-- The countdown has run out in APPROACH or CUT, with its grace timer not yet started (R142). -/
theorem State.countdownOut_iff (s : State) : s.countdownOut = true ↔
    (s.sgm.phase = .approach ∨ s.sgm.phase = .cut) ∧ s.sgm.graceTimer = none ∧
      ∃ g : Countdown, s.sgm.countdown = some g ∧ g.timeToGap ≤ (s.now - g.loadedAt).toNat := by
  unfold State.countdownOut
  cases s.sgm.countdown with
  | none => simp
  | some g => simp [Countdown.remaining, elapsed, Nat.sub_eq_zero_iff_le, and_assoc, -BitVec.toNat_sub]

/-- The frame being sent is at its end (R161). -/
theorem State.sendingEnds_iff (s : State) : s.sendingEnds = true ↔
    ∃ f : Sending, s.dlk.sending = some f ∧ reached s.instant f.endsAt = true := by
  unfold State.sendingEnds
  cases s.dlk.sending <;> simp

theorem State.isReady_iff (s : State) : s.isReady = true ↔ s.cfl.loader = .ready := by simp [State.isReady]

/-- Each of a list of events that stands under its condition. -/
theorem mem_filterMap_guard {α : Type} {c : α} {table : List (Bool × α)} :
    c ∈ table.filterMap (fun p => if p.1 then some p.2 else none) ↔ (true, c) ∈ table := by
  simp only [List.mem_filterMap, Option.ite_none_right_eq_some, Option.some.injEq, Prod.exists]
  constructor
  · rintro ⟨_, _, mem, rfl, rfl⟩; exact mem
  · exact fun mem => ⟨_, _, mem, rfl, rfl⟩

/-- A round has stood for 4 ms (R62, log entry 25). -/
theorem roundRunsOut_iff (s : State) :
    (s.sre.round.map (fun r => decide (4 ≤ elapsed s.now r.startedAt))).getD false = true ↔
      ∃ r : Round, s.sre.round = some r ∧ 4 ≤ (s.now - r.startedAt).toNat := by
  cases s.sre.round with
  | none => simp
  | some r => 
    simp only [Option.map_some, Option.getD_some, decide_eq_true_eq, Option.some.injEq, exists_eq_left']
    rfl

/-- A voltage conversion has run as long as it can (R71). -/
theorem voltageRunsOut_iff (s : State) : (s.msu.adc.isVoltage && s.conversionRunsOut) = true ↔
    ∃ since : Instant, s.msu.adc = .voltage since ∧ 327 ≤ (s.instant - since).toNat := by
  rw [Bool.and_eq_true, State.conversionRunsOut_iff]
  cases s.msu.adc <;> simp [AdcState.isVoltage, AdcState.since, -BitVec.toNat_sub]

/-- A current conversion has run as long as it can (R71). -/
theorem currentRunsOut_iff (s : State) : (s.msu.adc.isCurrent && s.conversionRunsOut) = true ↔
    ∃ since : Instant, s.msu.adc = .current since ∧ 327 ≤ (s.instant - since).toNat := by
  rw [Bool.and_eq_true, State.conversionRunsOut_iff]
  cases s.msu.adc <;> simp [AdcState.isCurrent, AdcState.since, -BitVec.toNat_sub]

/-- The free raw levels of a RESTART, input by input (R113, log entry 23). -/
theorem State.unreadInputs_iff (s : State) (raw : RawInputs) : raw = s.unreadInputs ↔
    raw.contact = Config.rawContact s.fresh ∧ raw.upLimit = Config.rawUpLimit s.fresh ∧
      raw.downLimit = Config.rawDownLimit s.fresh := by
  cases raw
  simp [State.unreadInputs]

/-- No event is due twice: each has a place of its own in the list. -/
theorem State.dueEvents_nodup (s : State) : s.dueEvents.Nodup := by
  have listed (table : List (Bool × Instr)) : table.filterMap (fun p => if p.1 then some p.2 else none) =
      (table.filter Prod.fst).map Prod.snd := by
    induction table with
    | nil => rfl
    | cons p rest ih => cases h : p.1 <;> simp [h, ih]
  unfold State.dueEvents
  rw [listed]
  refine List.Nodup.sublist (List.filter_sublist.map Prod.snd) (List.Nodup.of_map Instr.ctorIdx ?_)
  simp only [List.map_cons, List.map_nil, Instr.ctorIdx]
  decide

/-- The events of the taps, each exactly on its tap, from READY on (R71, R88, R108; log entry 14). -/
theorem State.mem_tapEvents_iff (s : State) (c : Instr) :
    c ∈ s.tapEvents ↔ s.isReady = true ∧
      ((c = .groupStart ∧ s.tmb.onTap 1024 = true) ∨ (c = .pwmCount ∧ s.tmb.onTap 1024 = false) ∨
       ((c = .conversionPairStart ∨ c = .chopperPeriodStart) ∧ s.tmb.onTick = true) ∨
       (c = .chopperCount ∧ s.tmb.onTick = false ∧ s.tmb.onTap 32 = true)) := by
  unfold State.tapEvents
  cases s.isReady <;> cases s.tmb.onTap 1024 <;> cases s.tmb.onTick <;> cases s.tmb.onTap 32 <;> simp

/-! ## What an idle moment does (R3, R4, R166) -/

/-- The rounded half-period count of a tone: half a tone above or below at most (R3). -/
theorem halfPeriod_bounds {f : Nat} (positive : 0 < f) :
    2 * f * halfPeriod f ≤ 65536000 + f ∧ 65536000 + f < 2 * f * (halfPeriod f + 1) := by
  have width : 0 < 2 * f := by omega
  exact ⟨Nat.mul_div_le .., Nat.lt_mul_div_succ (65536000 + f) width⟩

/-- The divider takes the tone of the symbol being keyed (R2 to R4). -/
theorem State.keyedHalfPeriod_eq (s : State) : s.keyedHalfPeriod = halfPeriod (60000 + 4000 * s.cfg.ownChannel.val +
    if ((s.ntx.latch.map Notice.frame).getD []).getD s.ntx.symbolIndex false then 2000 else 0) := by
  simp only [State.keyedHalfPeriod, symbolTone, markTone, spaceTone]
  split <;> rfl

/-- The queue and the model's counter play no part in which events are due, but for the free values (log entry 23). -/
theorem State.dueEvents_queue (s : State) (pending : List Instr) :
    { s with pending := pending }.dueEvents = s.dueEvents := rfl

/-- Events that an idle moment queues are those events in some order. -/
theorem State.queueEvents_perm {s : State} (free : s.pending = []) (events : List Instr) :
    (s.queueEvents events).pending.Perm events := by
  simpa [State.queueEvents, free] using arrange_perm s.fresh events

/-- The divider's cycle changes nothing but the divider (R3, R4). -/
theorem State.runDivider_eq (s : State) :
    s.runDivider = { s with ntx := { s.ntx with divider := s.runDivider.ntx.divider } } := by
  unfold State.runDivider
  split <;> rfl

/-- The divider over one crystal cycle: it counts 8 synthesis clocks while a notice is keyed (R3, R4). -/
theorem State.runDivider_divider (s : State) : s.runDivider.ntx.divider =
    if s.ntx.state = .sending then s.ntx.divider.advance s.keyedHalfPeriod else s.ntx.divider := by
  unfold State.runDivider
  split <;> rfl

/-- An idle moment outside a reset: the events that are due, or the next crystal cycle (log entry 2). -/
theorem State.idle_cases {s : State} (running : s.held = false) :
    (s.dueEvents ≠ [] ∧ s.idle = s.queueEvents s.dueEvents) ∨
    (s.dueEvents = [] ∧ s.idle =
      let next := s.runDivider.withTmb s.tmb.advance
      next.queueEvents (next.tapEvents ++ next.dueEvents)) := by
  unfold State.idle
  by_cases due : s.dueEvents = [] <;> simp [running, due]

/-- An idle moment at which events are due, or which advances the crystal (the first part of O2). -/
theorem step_idle {s : State} (empty : s.pending = []) (running : s.held = false) : ∃ t : State, step s = .next t ∧
    (s.dueEvents ≠ [] →
      t.pending.Perm s.dueEvents ∧ t = { s with pending := t.pending, fresh := t.fresh }) ∧
    (s.dueEvents = [] →
      t.instant = s.instant + 1 ∧ t.pending.Perm (t.tapEvents ++ { t with fresh := s.fresh }.dueEvents) ∧
      t = { s with
        tmb := t.tmb, ntx := { s.ntx with divider := t.ntx.divider }, pending := t.pending, fresh := t.fresh } ∧
      t.ntx.divider = s.runDivider.ntx.divider) := by
  have stepped : step s = .next s.idle := by simp [step, empty]
  refine ⟨_, stepped, ?_⟩
  rcases State.idle_cases running with ⟨due, h⟩ | ⟨none, h⟩ <;> rw [h]
  · exact ⟨fun _ => ⟨State.queueEvents_perm empty _, rfl⟩, fun none => absurd none due⟩
  · refine ⟨fun due => absurd none due, fun _ => ?_⟩
    rw [State.runDivider_eq]
    exact ⟨by simp [State.instant], State.queueEvents_perm empty _, rfl, rfl⟩

/-- Settles O2: the two kinds of idle moment, the rounding of the tone count, and each event at its condition. -/
theorem idleMomentsRunTheCrystal : Obligations.IdleMomentsRunTheCrystal := by
  refine ⟨fun s empty running => ?_, fun f => halfPeriod_bounds, fun s c => ⟨s.dueEvents_nodup, ?_, ?_⟩⟩
  · obtain ⟨t, stepped, busy, free⟩ := step_idle empty running
    refine ⟨t, stepped, busy, fun none => ?_⟩
    obtain ⟨instant, queue, frame, divider⟩ := free none
    rw [State.runDivider_divider] at divider
    refine ⟨instant, queue, frame, fun silent => by rw [divider, if_neg silent], fun sending => ?_⟩
    rw [if_pos sending, State.keyedHalfPeriod_eq] at divider
    refine ⟨fun counts => ?_, fun toggles => ?_⟩
    · rw [divider, ToneDivider.advance, if_neg (by omega)]
    · rw [divider, ToneDivider.advance, if_pos toggles]
  · unfold State.dueEvents
    rw [mem_filterMap_guard]
    cases c <;> simp only [List.mem_cons, Prod.mk.injEq, reduceCtorEq, and_false, false_or, or_false,
      List.not_mem_nil, eq_self, and_true, @eq_comm Bool true, voltageRunsOut_iff, currentRunsOut_iff]
    case voltageConversionCompletion code =>
      rw [Instr.voltageConversionCompletion.injEq, and_comm]; rfl
    case currentConversionCompletion code =>
      rw [Instr.currentConversionCompletion.injEq, and_comm]; rfl
    case restart raw =>
      simp only [Instr.restart.injEq, State.unreadInputs_iff, State.frameEnds_iff, State.lineIdle_iff,
        RxBuffer.row_eq_iff]
    all_goals simp only [Bool.and_eq_true, beq_iff_eq, decide_eq_true_eq,
      Timer.due_iff, State.isReady_iff, State.timerExpires_iff, State.countdownOut_iff, State.stowExpires_iff,
      State.sendingEnds_iff, State.frameEnds_iff, State.lineIdle_iff, RxBuffer.row_eq_iff, roundRunsOut_iff,
      and_assoc]
  · rw [State.mem_tapEvents_iff, State.isReady_iff]
    refine and_congr_right fun _ => ?_
    cases c <;> simp [Tmb.onTap, Tmb.onTick]

end Sys2Proof.Machine
end

section
/-! PROOFS. Reception: decisions, completed records and their deliveries (R2, R8 to R15, R21, R22). -/

namespace Sys2Proof.Machine

/-! ## Tones and decisions (R2, R8) -/

/-- Two tone contents are one where each is mark in both or neither, and space in both or neither (R8). -/
theorem Symbol.ofTones_eq_iff (mark space mark' space' : Bool) :
    Symbol.ofTones mark space = .ofTones mark' space' ↔
      ((mark = true ∧ ¬space = true) ↔ (mark' = true ∧ ¬space' = true)) ∧
      ((space = true ∧ ¬mark = true) ↔ (space' = true ∧ ¬mark' = true)) := by
  revert mark space mark' space'; decide

/-- A decision is known from when it is MARK and when it is SPACE (R8). -/
theorem Symbol.ofTones_eq {mark space : Bool} {d : Symbol} (isMark : d = .mark ↔ mark = true ∧ ¬space = true)
    (isSpace : d = .space ↔ space = true ∧ ¬mark = true) : Symbol.ofTones mark space = d := by
  cases d <;> cases mark <;> cases space <;> simp_all [Symbol.ofTones]

/-- Whether frequencies hold one within the accepted band of a tone (R2). -/
theorem any_accepts_iff (frequencies : List Nat) (tone : Nat) : frequencies.any (accepts tone) = true ↔
    ∃ f ∈ frequencies, 1000 * tone ≤ f + 500000 ∧ f ≤ 1000 * tone + 500000 := by
  simp [accepts_iff]

/-- A change is none of the tone content where mark and space stand alone after it as they did before (R8). -/
theorem contentChanges_eq_false_iff (change : ToneChange) : contentChanges change = false ↔
    Symbol.contentOf change.channel change.before = .contentOf change.channel change.after := by
  simp [contentChanges]

/-- A context's window after a decision: its last 8 (R9). -/
theorem pushDecision_eq (window : List Symbol) (d : Symbol) : pushDecision window d = (window ++ [d]).rtake 8 := by
  simp [pushDecision, List.rtake]

/-- The alternation run after a decision in HUNT (R9). -/
theorem runAfter_eq (c : RxContext) (d : Symbol) : runAfter c d =
    if d = .silent then 0
    else if (d == .mark && c.window.getLast? == some .space) || (d == .space && c.window.getLast? == some .mark)
      then c.run + 1 else 1 := by
  unfold runAfter
  cases d <;> cases c.window.getLast? with
    | none => rfl
    | some previous => cases previous <;> rfl

/-! ## A context's decision (R7 to R11) -/

/-- The decision times of a context (R8). -/
theorem RxContext.decisionDue_iff (c : RxContext) (now : Instant) : c.decisionDue now = true ↔
    ∃ b : Instant, c.boundary = some b ∧ (now - b).toNat % 16384 = 8192 := by
  unfold RxContext.decisionDue
  cases c.boundary <;> simp [-BitVec.toNat_sub]

theorem State.takesDecision_iff (s : State) (ch : Channel) : s.takesDecision ch = true ↔
    s.cfl.loader = .ready ∧
      ∃ b : Instant, (s.crx.contexts[ch]).boundary = some b ∧ (s.instant - b).toNat % 16384 = 8192 := by
  rw [State.takesDecision, Bool.and_eq_true, State.isReady_iff, RxContext.decisionDue_iff]

namespace State.DecidesNow

variable {s : State} {ch : Channel}

theorem takes (decides : s.DecidesNow ch) : s.takesDecision ch = true := (s.takesDecision_iff ch).mpr decides.2

/-- SYMBOL_DECISION is the decision that its components spell (R8). -/
theorem exec_symbolDecision (decides : s.DecidesNow ch) (steady passing : List Component) :
    exec (.symbolDecision ch steady passing) s = .next (s.decideSymbol ch (.ofComponents ch steady)).settle :=
  exec_of_occurs rfl decides.1 decides.takes

/-- FRAME_ABANDON is the NONE decision in BODY (R11). -/
theorem exec_frameAbandon (decides : s.DecidesNow ch) (body : (s.crx.contexts[ch]).state = .body) :
    exec (.frameAbandon ch) s = .next (s.decideSymbol ch .silent).settle :=
  exec_of_occurs rfl decides.1 (by simp only [occursAt, decides.takes, body]; rfl)

/-- SYNC_ENTRY is the decision that alternates with the previous one and takes the run to 6 (R9). -/
theorem exec_syncEntry (decides : s.DecidesNow ch) (hunt : (s.crx.contexts[ch]).state = .hunt) {d : Symbol}
    (alternates : ((s.crx.contexts[ch]).window.getLast?.getD .silent).other = d)
    (sixth : 6 ≤ runAfter s.crx.contexts[ch] d) :
    exec (.syncEntry ch) s = .next (s.decideSymbol ch d).settle := by
  rw [exec_of_occurs (c := .syncEntry ch) rfl decides.1
    (by simp only [occursAt, decides.takes, hunt, alternates, sixth]; rfl)]
  simp only [effectOf, alternates]

end State.DecidesNow

/-- A decision in HUNT that does not enter SYNC (R9). -/
theorem State.decideSymbol_hunt {s : State} {ch : Channel} {d : Symbol} (hunt : (s.crx.contexts[ch]).state = .hunt)
    (short : runAfter s.crx.contexts[ch] d < 6) :
    s.decideSymbol ch d = s.withContext ch { s.crx.contexts[ch] with
      run := runAfter s.crx.contexts[ch] d, window := ((s.crx.contexts[ch]).window ++ [d]).rtake 8 } := by
  simp only [State.decideSymbol, hunt, if_neg (Nat.not_le.mpr short), pushDecision_eq]

/-- The decision in HUNT that enters SYNC (R9, R23). -/
theorem State.decideSymbol_entersSync {s : State} {ch : Channel} {d : Symbol}
    (hunt : (s.crx.contexts[ch]).state = .hunt) (sixth : 6 ≤ runAfter s.crx.contexts[ch] d) :
    s.decideSymbol ch d = (s.withContext ch { s.crx.contexts[ch] with
      state := .sync, run := 6, syncCount := 0,
      window := ((s.crx.contexts[ch]).window ++ [d]).rtake 8 }).syncEntered ch := by
  simp only [State.decideSymbol, hunt, if_pos sixth, pushDecision_eq]

/-- Settles O9: a boundary where the tone content differs, and each decision in HUNT by the run that it leaves. -/
theorem huntDecisions : Obligations.HuntDecisions := by
  intro s ch hunt c near space previous follows run entered noted
  have runs (d : Symbol) : runAfter c d = run d := runAfter_eq c d
  have enters (d : Symbol) (sixth : 6 ≤ run d) : s.decideSymbol ch d = noted (entered d) := by
    rw [State.decideSymbol_entersSync hunt ((runs d).symm ▸ sixth)]
    rfl
  have follow (d : Symbol) (long : 5 ≤ c.run) (alternates : follows d = true) (tone : d ≠ .silent) : 6 ≤ run d := by
    simp only [run, if_neg tone, if_pos alternates]
    omega
  refine ⟨?_, fun decides => ⟨?_, fun long prev => ?_, fun long prev => ?_⟩⟩
  · intro running before after mark low same
    have kept : contentChanges { channel := ch, before := before, after := after } = false ↔ same := by
      rw [contentChanges_eq_false_iff]
      simp only [Symbol.contentOf, Symbol.ofTones_eq_iff, any_accepts_iff]
      rfl
    refine ⟨fun differs => ?_, fun stands => ?_⟩
    · have changes := mt kept.mp differs
      rw [Bool.not_eq_false] at changes
      exact exec_of_occurs rfl running (by simp only [occursAt, hunt, changes]; rfl)
    · rw [exec_eq_event _ _ rfl]
      exact State.event_of_not (by simp only [occursAt, kept.mpr stands, Bool.and_false])
  · intro steady passing d present isMark isSpace
    have spelled : Symbol.ofComponents ch steady = d := by
      apply Symbol.ofTones_eq
      · simp only [isMark, tonePresent_iff, accepts_iff]; rfl
      · simp only [isSpace, tonePresent_iff, accepts_iff]; rfl
    rw [decides.exec_symbolDecision, spelled]
    refine ⟨rfl, fun short => ?_, fun sixth => by rw [enters d sixth]⟩
    rw [State.decideSymbol_hunt hunt ((runs d).symm ▸ short), runs d]
  · have sixth := follow .mark long (by simp [follows, prev]) (by decide)
    have last : (s.crx.contexts[ch]).window.getLast? = _ := prev
    rw [decides.exec_syncEntry hunt (d := .mark) (by rw [last]; rfl) ((runs _).symm ▸ sixth),
      enters _ sixth]
  · have sixth := follow .space long (by simp [follows, prev]) (by decide)
    have last : (s.crx.contexts[ch]).window.getLast? = _ := prev
    rw [decides.exec_syncEntry hunt (d := .space) (by rw [last]; rfl) ((runs _).symm ▸ sixth),
      enters _ sixth]

/-! ## Decisions in SYNC and in BODY (R10, R11) -/

section

variable {s : State} {ch : Channel} {d : Symbol}

/-- A NONE in SYNC returns to HUNT (R10). -/
theorem State.decideSymbol_sync_silent (sync : (s.crx.contexts[ch]).state = .sync) :
    s.decideSymbol ch .silent = s.withContext ch { s.crx.contexts[ch] with
      state := .hunt, run := 0, syncCount := 0, body := [],
      window := ((s.crx.contexts[ch]).window ++ [Symbol.silent]).rtake 8 } := by
  simp only [State.decideSymbol, sync, if_true, pushDecision_eq, RxContext.toHunt]

/-- A tone in SYNC that completes the pattern enters BODY (R10). -/
theorem State.decideSymbol_sync_matched (sync : (s.crx.contexts[ch]).state = .sync) (tone : d ≠ .silent)
    (matched : ((s.crx.contexts[ch]).window ++ [d]).rtake 8 = syncPattern.map Symbol.ofBit) :
    s.decideSymbol ch d = s.withContext ch { s.crx.contexts[ch] with
      state := .body, body := [], window := ((s.crx.contexts[ch]).window ++ [d]).rtake 8 } := by
  simp only [State.decideSymbol, sync, if_neg tone, pushDecision_eq, if_pos matched]

/-- A tone in SYNC that does not complete the pattern is counted, and the 13th returns to HUNT, with a free alternation
run (R10, log entry 6). -/
theorem State.decideSymbol_sync_unmatched (sync : (s.crx.contexts[ch]).state = .sync) (tone : d ≠ .silent)
    (unmatched : ((s.crx.contexts[ch]).window ++ [d]).rtake 8 ≠ syncPattern.map Symbol.ofBit) :
    s.decideSymbol ch d = if (s.crx.contexts[ch]).syncCount < 12
      then s.withContext ch { s.crx.contexts[ch] with
        syncCount := (s.crx.contexts[ch]).syncCount + 1, window := ((s.crx.contexts[ch]).window ++ [d]).rtake 8 }
      else s.drawn.withContext ch { s.crx.contexts[ch] with
        state := .hunt, run := Config.huntRun s.fresh % 7, syncCount := 0, body := [],
        window := ((s.crx.contexts[ch]).window ++ [d]).rtake 8 } := by
  simp only [State.decideSymbol, sync, if_neg tone, pushDecision_eq, if_neg unmatched, RxContext.toHunt]

/-- A NONE in BODY abandons the frame and counts one error (R11, R15). -/
theorem State.decideSymbol_body_silent (body : (s.crx.contexts[ch]).state = .body) :
    s.decideSymbol ch .silent = (s.withContext ch { s.crx.contexts[ch] with
      state := .hunt, run := 0, syncCount := 0, body := [],
      window := ((s.crx.contexts[ch]).window ++ [Symbol.silent]).rtake 8 }).countError ch := by
  simp only [State.decideSymbol, body, Symbol.bit, pushDecision_eq, RxContext.toHunt]

/-- The bit of a tone: 1 for MARK (R11). -/
theorem Symbol.bit_of_tone (tone : d ≠ .silent) : d.bit = some (decide (d = .mark)) := by
  cases d
  case silent => exact absurd rfl tone
  all_goals rfl

/-- A tone in BODY joins the record, short of its 64th bit (R11). -/
theorem State.decideSymbol_body_fills (body : (s.crx.contexts[ch]).state = .body) (tone : d ≠ .silent)
    (short : (s.crx.contexts[ch]).body.length < 63) :
    s.decideSymbol ch d = s.withContext ch { s.crx.contexts[ch] with
      body := (s.crx.contexts[ch]).body ++ [decide (d = .mark)],
      window := ((s.crx.contexts[ch]).window ++ [d]).rtake 8 } := by
  have more : ¬64 ≤ ((s.crx.contexts[ch]).body ++ [decide (d = .mark)]).length := by simp; omega
  simp only [State.decideSymbol, body, Symbol.bit_of_tone tone, if_neg more, pushDecision_eq]

/-- The tone that completes the record: the context is back in HUNT, and the record is checked (R11, R12). -/
theorem State.decideSymbol_body_completes (body : (s.crx.contexts[ch]).state = .body)
    (last : (s.crx.contexts[ch]).body.length = 63) (mark : Bool) :
    s.decideSymbol ch (.ofBit mark) =
      (s.recordTaken ch mark).checkRecord ch ((s.crx.contexts[ch]).body ++ [mark]) := by
  have full : 64 ≤ ((s.crx.contexts[ch]).body ++ [mark]).length := by
    simp only [List.length_append, last, List.length_singleton, Nat.le_refl]
  have bit : (Symbol.ofBit mark).bit = some mark := by cases mark <;> rfl
  simp only [State.decideSymbol, body, bit, if_pos full, pushDecision_eq, RxContext.toHunt]
  rfl

end

/-- Settles O10: each decision in SYNC and in BODY by what it finds. -/
theorem syncAndBodyDecisions : Obligations.SyncAndBodyDecisions := by
  intro s ch steady passing decides c d seen hunting counted
  have taken : exec (.symbolDecision ch steady passing) s = .next (s.decideSymbol ch d).settle :=
    decides.exec_symbolDecision steady passing
  refine ⟨fun sync => ⟨fun silent => ?_, ?_⟩, fun body => ⟨fun silent => ?_, fun tone short => ?_⟩⟩
  · have heard : seen = (c.window ++ [Symbol.silent]).rtake 8 := by simp only [seen, silent]
    rw [taken, silent, State.decideSymbol_sync_silent sync]
    simp only [hunting, heard, c]
  · intro tone matched
    refine ⟨fun fits => ?_, fun misses few => ?_, fun misses many => ⟨Config.huntRun s.fresh % 7, by omega, ?_⟩⟩
    · rw [taken, State.decideSymbol_sync_matched sync tone fits]
    · rw [taken, State.decideSymbol_sync_unmatched sync tone misses, if_pos few]
    · rw [taken, State.decideSymbol_sync_unmatched sync tone misses, if_neg (Nat.not_lt.mpr many)]
      rfl
  · have heard : seen = (c.window ++ [Symbol.silent]).rtake 8 := by simp only [seen, silent]
    have abandoned : s.decideSymbol ch .silent = counted (hunting 0) := by
      rw [State.decideSymbol_body_silent body]
      simp only [counted, hunting, heard, c]
      rfl
    exact ⟨by rw [decides.exec_frameAbandon body, abandoned], by rw [taken, silent, abandoned]⟩
  · rw [taken, State.decideSymbol_body_fills body tone short]

/-! ## A completed record (R12 to R15, R28) -/

/-- The classes are the values 0 to 5 (R6, R12). -/
theorem TruckClass.ofCode_isSome_iff (n : Nat) : (TruckClass.ofCode n).isSome = true ↔ n ≤ 5 := by
  match n with
  | 0 | 1 | 2 | 3 | 4 | 5 => simp [TruckClass.ofCode]
  | n + 6 => simp [TruckClass.ofCode]

/-- The tests that a completed record passes, as the receiver makes them (R12). -/
theorem recordPasses_iff {bits : List Bool} (full : bits.length = 64) (n : Notice) : RecordPasses bits n ↔
    recordCrcAgrees bits = true ∧ n.fieldsPass = true ∧ n = Notice.ofBody (bits.take 48) := by
  have rest : slice bits 48 16 = bits.drop 48 := by
    simp only [slice]
    exact List.take_of_length_le (by simp [full])
  simp only [recordCrcAgrees, rest, Notice.fieldsPass, Bool.and_eq_true, beq_iff_eq, bne_iff_ne,
    TruckClass.ofCode_isSome_iff]
  exact ⟨fun ⟨crc, notice, station, cls⟩ => ⟨crc, ⟨station, cls⟩, notice⟩,
    fun ⟨crc, ⟨station, cls⟩, notice⟩ => ⟨crc, notice, station, cls⟩⟩

/-- A record that fails a test counts one channel error (R12, R15). -/
theorem State.checkRecord_fails {s : State} {bits : List Bool} (full : bits.length = 64)
    (fails : ¬∃ n, RecordPasses bits n) (ch : Channel) : s.checkRecord ch bits = s.countError ch := by
  have failing : (!recordCrcAgrees bits || !(Notice.ofBody (bits.take 48)).fieldsPass) = true := by
    by_contra passes
    simp only [Bool.or_eq_true, Bool.not_eq_true', not_or, Bool.not_eq_false] at passes
    exact fails ⟨_, (recordPasses_iff full _).mpr ⟨passes.1, passes.2, rfl⟩⟩
  simp only [State.checkRecord, failing, if_true]

/-- A record that passes the tests: the own echo, a foreign pilot, and the two deliveries (R13, R14). -/
theorem State.checkRecord_passes {s : State} {bits : List Bool} {n : Notice} (full : bits.length = 64)
    (passes : RecordPasses bits n) (ch : Channel) : s.checkRecord ch bits =
      if ch = s.cfg.ownChannel ∧ n.station.toNat = s.cfg.stationId then s.ownDelivery n
      else if s.sectionKnown = true ∧ n.pilot ≠ s.sectionIndex then s.countForeign
      else if ch = s.cfg.ownChannel then s.ownDelivery n
      else s.peerDelivery ch n := by
  obtain ⟨crc, fields, rfl⟩ := (recordPasses_iff full n).mp passes
  simp only [State.checkRecord, crc, fields, Bool.not_true, Bool.or_self, Bool.false_eq_true, if_false,
    Bool.and_eq_true, decide_eq_true_eq]

namespace State.CompletesRecord

variable {s : State} {ch : Channel} {mark : Bool} {bits : List Bool}

theorem full (h : s.CompletesRecord ch mark bits) : bits.length = 64 := by
  rw [h.bits, List.length_append, h.last]; rfl

/-- NOTICE_RECEIVED is the decision that completes the record (R11, R12). -/
theorem exec_noticeReceived (h : s.CompletesRecord ch mark bits) :
    exec (.noticeReceived ch mark) s = .next ((s.recordTaken ch mark).checkRecord ch bits).settle := by
  rw [exec_of_occurs (c := .noticeReceived ch mark) rfl h.decides.1
    (by simp only [occursAt, h.decides.takes, h.body, h.last]; rfl)]
  rw [effectOf, State.decideSymbol_body_completes h.body h.last, h.bits]

/-- SYMBOL_DECISION with the last bit's tone is that decision too (log entry 16). -/
theorem exec_symbolDecision (h : s.CompletesRecord ch mark bits) {steady passing : List Component}
    (spells : Symbol.ofComponents ch steady = if mark then .mark else .space) :
    exec (.symbolDecision ch steady passing) s = exec (.noticeReceived ch mark) s := by
  rw [h.decides.exec_symbolDecision, h.exec_noticeReceived, spells, h.bits]
  exact congrArg (fun u => Host.Outcome.next (State.settle u)) (State.decideSymbol_body_completes h.body h.last mark)

end State.CompletesRecord

/-- Settles O11: the record's check by the test that fails first. -/
theorem completedRecordChecks : Obligations.CompletedRecordChecks := by
  intro s ch mark bits completes u
  refine ⟨fun steady passing spells => completes.exec_symbolDecision spells, fun fails => ?_,
    fun n passes => ⟨fun known foreign notEcho => ?_, fun pilot peer own => ?_⟩⟩
  · rw [completes.exec_noticeReceived, State.checkRecord_fails completes.full fails]
    rfl
  · have moves : u.sectionKnown = true ∧ n.pilot ≠ u.sectionIndex := ⟨known, foreign⟩
    have other : ¬(ch = u.cfg.ownChannel ∧ n.station.toNat = u.cfg.stationId) := fun e =>
      notEcho.elim (fun away => away e.1) (fun away => away e.2)
    rw [completes.exec_noticeReceived, State.checkRecord_passes completes.full passes, if_neg other, if_pos moves]
    rfl
  · have away : ¬(ch = u.cfg.ownChannel ∧ n.station.toNat = u.cfg.stationId) := fun e => peer e.1
    have home : ¬(u.sectionKnown = true ∧ n.pilot ≠ u.sectionIndex) := fun e => e.2 (pilot e.1)
    rw [completes.exec_noticeReceived, State.checkRecord_passes completes.full passes, if_neg away, if_neg home,
      if_neg (show ¬ch = u.cfg.ownChannel from peer), State.peerDelivery,
      if_pos (show n.station.toNat = u.cfg.stationId from own)]
    rfl

/-! ## Own-channel deliveries (R21, R22) -/

/-- A record that the own channel delivers reaches NTX (R13, R14). -/
theorem State.OwnDelivers.exec_noticeReceived {s : State} {ch : Channel} {mark : Bool} {n : Notice}
    (h : s.OwnDelivers ch mark n) :
    exec (.noticeReceived ch mark) s = .next ((s.recordTaken ch mark).ownDelivery n).settle := by
  obtain ⟨bits, completes, passes⟩ := h.record
  rw [completes.exec_noticeReceived, State.checkRecord_passes completes.full passes]
  set u := s.recordTaken ch mark
  have own : ch = u.cfg.ownChannel := h.own
  by_cases echo : n.station.toNat = u.cfg.stationId
  · rw [if_pos ⟨own, echo⟩]
  · have home : ¬(u.sectionKnown = true ∧ n.pilot ≠ u.sectionIndex) := fun e => e.2 (h.pilot echo e.1)
    rw [if_neg (fun e => echo e.2), if_neg home, if_pos own]

/-- A conditional STATUS trigger as one update (R163). -/
theorem State.triggerStatusIf_eq (s : State) (b : Bool) : s.triggerStatusIf b =
    { s with dlk := { s.dlk with statusPending := s.dlk.statusPending || b } } := by
  cases b <;> simp [State.triggerStatusIf, State.triggerStatus]

/-- A new NTX as one update (R163). -/
theorem State.withNtx_eq (s : State) (n : Ntx) : s.withNtx n = { s with
    ntx := n,
    dlk := { s.dlk with statusPending := s.dlk.statusPending || decide (n.state ≠ s.ntx.state) } } := by
  rw [State.withNtx, State.triggerStatusIf_eq]

/-- A raise request as one update (R147, R163). -/
theorem State.raiseCause_eq (s : State) (c : Cause) : s.raiseCause c = { s with
    cfm := s.cfm.raise c,
    dlk := { s.dlk with
      statusPending := s.dlk.statusPending || decide ((s.cfm.raise c).level ≠ s.cfm.level) } } := by
  rw [State.raiseCause, State.withCfm, State.triggerStatusIf_eq]

/-- A clear request is no STATUS trigger: it leaves the level (R149, R163). -/
theorem State.clearCause_eq (s : State) (c : Cause) : s.clearCause c = { s with cfm := s.cfm.clear c } := by
  rw [State.clearCause, State.withCfm, State.triggerStatusIf_eq]
  simp

/-- NTX enters IDLE from another state: a STATUS trigger (R20, R163). -/
theorem State.enterIdle_eq {s : State} (other : s.ntx.state ≠ .idle) : s.enterIdle = { s with
    ntx := { s.ntx with state := .idle, symbolEnds := none }, dlk := { s.dlk with statusPending := true } } := by
  simp [State.enterIdle, State.withNtx_eq, other.symm]

/-- NTX enters MUTED from another state: a STATUS trigger, whatever the raise of CLASH does (R23, R163). -/
theorem State.enterMuted_eq {s : State} (other : s.ntx.state ≠ .muted) (clashRaised : Bool) :
    s.enterMuted clashRaised = { s with
      ntx := { s.ntx with state := .muted, quiet := 0, activity := false, symbolEnds := none },
      cfm := if clashRaised then s.cfm else s.cfm.raise .clash, dlk := { s.dlk with statusPending := true } } := by
  cases clashRaised <;> simp [State.enterMuted, State.withNtx_eq, State.raiseCause_eq, other.symm]

/-- Settles O13: the delivery at NTX by the transmitter state. -/
theorem ownChannelDeliveries : Obligations.OwnChannelDeliveries := by
  intro s ch mark n delivers u own
  have delivery : exec (.noticeReceived ch mark) s = .next (u.ownDelivery n).settle := delivers.exec_noticeReceived
  have state : u.ntx.state = s.ntx.state := rfl
  have latch : u.ntx.latch = s.ntx.latch := rfl
  have ownId : (n.station.toNat = u.cfg.stationId) = own := rfl
  refine ⟨fun idle => ?_, fun sending echo latched => ?_, fun sending echo unlatched => ?_, fun sending foreign => ?_,
    fun muted => ?_⟩
  · have delivered : u.ownDelivery n = u.enterMuted false := by simp only [State.ownDelivery, state, idle]
    rw [delivery, delivered, State.enterMuted_eq (by simp [state, idle])]
    rfl
  · simp only [delivery, State.ownDelivery, state, sending, latch, ownId, echo, latched, decide_true, if_true]
    rfl
  · simp only [delivery, State.ownDelivery, state, sending, latch, ownId, echo, unlatched, decide_true, if_true,
      if_false]
  · simp only [delivery, State.ownDelivery, state, sending, ownId, foreign, decide_false, Bool.false_eq_true,
      if_false, State.raiseCause_eq]
    rfl
  · simp only [delivery, State.ownDelivery, state, muted]

end Sys2Proof.Machine
end

section
/-! PROOFS. The notice transmitter and contact losses (R16 to R23, R119 to R125, R143). -/

namespace Sys2Proof.Machine

/-! ## Keying and completion (R20, R21, R23) -/

/-- The four ends of a notice, from SENDING (R20, R21, R23). -/
theorem State.completeNotice_cases {s : State} (sending : s.ntx.state = .sending) :
    let muted : Ntx := { s.ntx with state := .muted, quiet := 0, activity := false, symbolEnds := none }
    let told : Dlk := { s.dlk with statusPending := true }
    (s.ntx.mutePending = true → s.completeNotice = { s with ntx := muted, dlk := told }) ∧
    (s.ntx.mutePending = false → s.ntx.echoSeen = true → s.completeNotice =
      { s with ntx := { s.ntx with state := .idle, echoFail := 0, symbolEnds := none }, dlk := told }) ∧
    (s.ntx.mutePending = false → s.ntx.echoSeen = false → s.ntx.echoFail = 0 → s.completeNotice =
      { s with ntx := { s.ntx with state := .idle, echoFail := 1, symbolEnds := none }, dlk := told }) ∧
    (s.ntx.mutePending = false → s.ntx.echoSeen = false → 1 ≤ s.ntx.echoFail → s.completeNotice =
      { s with ntx := { muted with echoFail := 2 }, cfm := s.cfm.raise .clash, dlk := told }) := by
  intro muted told
  refine ⟨fun mute => ?_, fun mute echo => ?_, fun mute echo first => ?_, fun mute echo again => ?_⟩
  · rw [State.completeNotice, if_pos mute, State.enterMuted_eq (by simp [sending])]
    rfl
  · rw [State.completeNotice, if_neg (by simp [mute]), if_pos echo, State.enterIdle_eq (by simp [sending])]
  · rw [State.completeNotice, if_neg (by simp [mute]), if_neg (by simp [echo])]
    simp only [first, saturate]
    rw [if_pos (by decide), State.enterIdle_eq (by simp [sending])]
    rfl
  · have twice : saturate 2 s.ntx.echoFail = 2 := by simp only [saturate]; omega
    rw [State.completeNotice, if_neg (by simp [mute]), if_neg (by simp [echo])]
    simp only [twice]
    rw [if_neg (by decide), State.enterMuted_eq (by simp [sending])]
    rfl

/-- Settles O14: the next symbol at each strobe, and the four ends of symbol 79. -/
theorem noticeKeyingAndCompletion : Obligations.NoticeKeyingAndCompletion := by
  intro s due running sending ends run muted
  have strobe : s.ntx.symbolEnds.due s.now = true := (Timer.due_iff ..).mpr ⟨due, ends, run⟩
  obtain ⟨mutes, hears, misses, fails⟩ := State.completeNotice_cases sending
  refine ⟨fun more => ?_, fun last => ?_⟩
  · rw [exec_of_occurs (c := .symbolStrobe) rfl running (by simp [occursAt, sending, more, strobe])]
    simp only [effectOf, State.nextSymbol, ends, Timer.reload, Option.map_some]
    rfl
  · have completes : exec .noticeCompletion s = .next s.completeNotice.settle :=
      exec_of_occurs rfl running (by simp [occursAt, sending, last, strobe])
    rw [completes]
    exact ⟨fun mute => by rw [mutes mute], fun mute echo => by rw [hears mute echo],
      fun mute echo first => by rw [misses mute echo first], fun mute echo again => by rw [fails mute echo again]⟩

/-! ## The notice timer's expiry (R17 to R19, R23) -/

/-- A notice's first symbol is MARK (R5), so the divider starts with the mark tone (R3). -/
theorem State.keyedHalfPeriod_first {s : State} {n : Notice} (latch : s.ntx.latch = some n)
    (first : s.ntx.symbolIndex = 0) : s.keyedHalfPeriod = halfPeriod (markTone s.cfg.ownChannel) := by
  simp only [State.keyedHalfPeriod, latch, first, Option.map_some, Option.getD_some]
  rfl

/-- The start of a notice as one update: the latch filled, symbol 0 keyed, and a divider of which only the half-period
count is given (R3, R18, R19, log entry 7). -/
theorem State.startNotice_eq {s : State} (idle : s.ntx.state = .idle) : ∃ divider : ToneDivider,
    divider.half = halfPeriod (markTone s.cfg.ownChannel) ∧ s.startNotice = { s with
      ntx := { s.ntx with
        state := .sending, seq := s.ntx.seq + 1, latch := some (s.latchedNotice (s.ntx.seq + 1)), symbolIndex := 0,
        echoSeen := false, mutePending := false, symbolEnds := .start s.now 2, divider := divider },
      dlk := { s.dlk with statusPending := true }, fresh := s.fresh + 1 } := by
  refine ⟨s.startNotice.ntx.divider, ?_, ?_⟩
  · simp only [State.startNotice, State.withNtx_ntx]
    rw [State.keyedHalfPeriod_first (n := s.latchedNotice (s.ntx.seq + 1)) (by simp) (by simp)]
    simp
  · simp [State.startNotice, State.withNtx_eq, State.drawn, idle]

/-- The quiet count at an expiry (R23). -/
theorem State.quietStep_cases {s : State} (muted : s.ntx.state = .muted) :
    (s.ntx.activity = true → s.quietStep = { s with ntx := { s.ntx with quiet := 0, activity := false } }) ∧
    (s.ntx.activity = false → s.ntx.quiet < 7 →
      s.quietStep = { s with ntx := { s.ntx with quiet := s.ntx.quiet + 1 } }) ∧
    (s.ntx.activity = false → 7 ≤ s.ntx.quiet → s.quietStep = { s with
      ntx := { s.ntx with state := .idle, quiet := 8, echoFail := 0, symbolEnds := none },
      cfm := s.cfm.clear .clash, dlk := { s.dlk with statusPending := true } }) := by
  refine ⟨fun active => ?_, fun still few => ?_, fun still many => ?_⟩
  · simp [State.quietStep, active]
  · have counts : saturate 8 s.ntx.quiet = s.ntx.quiet + 1 := by simp only [saturate]; omega
    have short : ¬s.ntx.quiet + 1 = 8 := by omega
    simp only [State.quietStep, still, Bool.false_eq_true, if_false, counts, if_neg short]
  · have full : saturate 8 s.ntx.quiet = 8 := by simp only [saturate]; omega
    simp only [State.quietStep, still, Bool.false_eq_true, if_false, full, if_true]
    rw [State.clearCause_eq, State.enterIdle_eq (by simp [muted])]

/-- All that NTX's part in an expiry changes; a change of the transmitter state is a STATUS trigger (R18, R23, R163). -/
theorem State.ntxExpiry_eq (s : State) : s.ntxExpiry = { s with
    ntx := s.ntxExpiry.ntx, cfm := s.ntxExpiry.cfm, fresh := s.ntxExpiry.fresh,
    dlk := { s.dlk with
      statusPending := s.dlk.statusPending || decide (s.ntxExpiry.ntx.state ≠ s.ntx.state) } } := by
  unfold State.ntxExpiry
  split
  · next idle =>
    split
    · obtain ⟨divider, -, starts⟩ := State.startNotice_eq idle
      rw [starts]
      simp [idle]
    · simp
  · next muted =>
    obtain ⟨active, few, many⟩ := State.quietStep_cases muted
    cases act : s.ntx.activity with
    | true => rw [active act]; simp
    | false =>
      by_cases short : s.ntx.quiet < 7
      · rw [few act short]; simp
      · rw [many act (Nat.not_lt.mp short)]; simp [muted]
  · simp
  · simp

/-- All that SRE's part in an expiry changes (R44). -/
theorem State.sreExpiry_eq (s : State) : s.sreExpiry = { s with
    sre := s.sreExpiry.sre, drp := s.sreExpiry.drp, bch := s.sreExpiry.bch } := by
  simp only [State.sreExpiry, State.zeroPublished, State.redraw, State.recompose, State.refreshChopper]
  (repeat' split) <;> rfl

/-- Settles O15: NTX's part in the expiry by its state, with SRE's part beside it. -/
theorem noticeExpiryAtTransmitter : Obligations.NoticeExpiryAtTransmitter := by
  intro s due running timer run next
  have expires : exec .noticeTimerExpiry s = .next s.noticeExpiry.settle :=
    exec_of_occurs rfl running ((Timer.due_iff ..).mpr ⟨due, timer, run⟩)
  set v : State := { s with ntx := { s.ntx with noticeTimer := some next } } with hv
  have both : s.noticeExpiry = v.ntxExpiry.sreExpiry := by
    simp only [State.noticeExpiry, timer, Timer.reload, Option.map_some, hv, next]
  have ntx : s.noticeExpiry.ntx = v.ntxExpiry.ntx := by rw [both]; simp
  have cfm : s.noticeExpiry.cfm = v.ntxExpiry.cfm := by rw [both]; simp
  refine ⟨s.noticeExpiry, expires, ?_, fun idle contact => ?_, fun idle away => ?_, fun muted => ⟨fun active => ?_,
    fun still few => ?_, fun still many => ?_⟩⟩
  · rw [both, State.sreExpiry_eq, State.ntxExpiry_eq]
  · obtain ⟨divider, half, starts⟩ := State.startNotice_eq (s := v) idle
    have begins : v.ntxExpiry = v.startNotice := by
      simp only [State.ntxExpiry, show v.ntx.state = .idle from idle, show v.psq.contact.accepted = true from contact,
        if_true]
    rw [ntx, cfm, begins, starts]
    exact ⟨divider, half, rfl, rfl⟩
  · have stays : v.ntxExpiry = v := by
      simp only [State.ntxExpiry, show v.ntx.state = .idle from idle, show v.psq.contact.accepted = false from away,
        Bool.false_eq_true, if_false]
    rw [ntx, cfm, stays]
    exact ⟨rfl, rfl⟩
  all_goals
    have quiets : v.ntxExpiry = v.quietStep := by simp only [State.ntxExpiry, show v.ntx.state = .muted from muted]
    obtain ⟨whenActive, whenFew, whenMany⟩ := State.quietStep_cases (s := v) muted
    rw [ntx, cfm, quiets]
  · rw [whenActive active]; exact ⟨rfl, rfl⟩
  · rw [whenFew still few]; exact ⟨rfl, rfl⟩
  · rw [whenMany still many]; exact ⟨rfl, rfl⟩

/-! ## The carrier only from notice starts (R18) -/

/-- From one state to another no notice starts: the own sequence stands, and SENDING is not entered. -/
def State.NoNoticeStarts (s u : State) : Prop :=
  u.ntx.seq = s.ntx.seq ∧ (u.ntx.state = .sending → s.ntx.state = .sending)

namespace State.NoNoticeStarts

variable {s u v : State}

/-- Where NTX's state and sequence stand, no notice starts. -/
theorem of_eq (state : u.ntx.state = s.ntx.state) (seq : u.ntx.seq = s.ntx.seq) : s.NoNoticeStarts u :=
  ⟨seq, fun sending => state ▸ sending⟩

theorem trans (first : s.NoNoticeStarts u) (second : u.NoNoticeStarts v) : s.NoNoticeStarts v :=
  ⟨second.1.trans first.1, fun sending => first.2 (second.2 sending)⟩

theorem enterIdle (s : State) : s.NoNoticeStarts s.enterIdle := ⟨by simp, by simp⟩

theorem enterMuted (s : State) (raised : Bool) : s.NoNoticeStarts (s.enterMuted raised) := ⟨by simp, by simp⟩

theorem abortNotice (s : State) : s.NoNoticeStarts s.abortNotice := by
  unfold State.abortNotice
  split
  · split
    · exact enterMuted ..
    · exact enterIdle _
  · exact of_eq rfl rfl

theorem completeNotice (s : State) : s.NoNoticeStarts s.completeNotice := by
  have counted (n : Nat) : s.NoNoticeStarts { s with ntx := { s.ntx with echoFail := n } } := of_eq rfl rfl
  unfold State.completeNotice
  dsimp only
  split
  · exact enterMuted ..
  · split
    · exact (counted 0).trans (enterIdle _)
    · split
      · exact (counted _).trans (enterIdle _)
      · exact (counted _).trans (enterMuted ..)

theorem quietStep (muted : s.ntx.state = .muted) : s.NoNoticeStarts s.quietStep := by
  obtain ⟨active, few, many⟩ := State.quietStep_cases muted
  cases act : s.ntx.activity with
  | true => rw [active act]; exact of_eq rfl rfl
  | false =>
    by_cases short : s.ntx.quiet < 7
    · rw [few act short]; exact of_eq rfl rfl
    · rw [many act (Nat.not_lt.mp short)]; exact ⟨rfl, by simp⟩

theorem ownDelivery (s : State) (n : Notice) : s.NoNoticeStarts (s.ownDelivery n) := by
  unfold State.ownDelivery
  dsimp only
  split
  · exact enterMuted ..
  · split
    · split <;> exact of_eq rfl rfl
    · exact of_eq rfl rfl
  · exact of_eq rfl rfl
  · exact of_eq rfl rfl

theorem checkRecord (s : State) (ch : Channel) (bits : List Bool) : s.NoNoticeStarts (s.checkRecord ch bits) := by
  unfold State.checkRecord
  dsimp only
  split
  · exact of_eq rfl rfl
  · split
    · exact ownDelivery ..
    · split
      · exact of_eq rfl rfl
      · split
        · exact ownDelivery ..
        · exact of_eq (by simp) (by simp)

/-- A decision starts no notice; an entry to SYNC only sets the activity flag (R9, R23). -/
theorem decideSymbol (s : State) (ch : Channel) (d : Symbol) : s.NoNoticeStarts (s.decideSymbol ch d) := by
  have placed (c : RxContext) : s.NoNoticeStarts (s.withContext ch c) := of_eq rfl rfl
  have entered (u : State) : u.NoNoticeStarts (u.syncEntered ch) := by
    unfold State.syncEntered
    split <;> exact of_eq rfl rfl
  unfold State.decideSymbol
  dsimp only
  split
  · split
    · exact (placed _).trans (entered _)
    · exact placed _
  · split
    · exact placed _
    · split
      · exact placed _
      · split
        · exact placed _
        · exact of_eq rfl rfl
  · split
    · exact of_eq rfl rfl
    · split
      · exact (placed _).trans (checkRecord ..)
      · exact placed _

theorem contactLost (s : State) : s.NoNoticeStarts s.contactLost :=
  (abortNotice s).trans (of_eq (by simp [State.contactLost]) (by simp [State.contactLost]))

theorem filterEdge (s : State) (input : FilterId) (level : Bool) : s.NoNoticeStarts (s.filterEdge input level) := by
  cases input with
  | contact =>
    have sampled : s.NoNoticeStarts { s with psq := { s.psq with contact := s.psq.contact.sample level } } :=
      of_eq rfl rfl
    simp only [State.filterEdge, State.contactEdge]
    split
    · split
      · exact of_eq (by simp) (by simp)
      · exact sampled.trans (contactLost _)
    · exact sampled
  | upLimit => exact of_eq rfl rfl
  | downLimit => exact of_eq (by simp [State.filterEdge]) (by simp [State.filterEdge])

theorem enterReady (s : State) : s.NoNoticeStarts s.enterReady := by
  have after : s.enterReady.ntx.seq = s.ntx.seq ∧ s.enterReady.ntx.state = .idle := by
    simp only [State.enterReady]
    split <;> simp [startTimers]
  exact ⟨after.1, by simp [after.2]⟩

end State.NoNoticeStarts

/-- No command's effect but a notice timer's expiry or a RESTART starts a notice (R18). -/
theorem effectOf_noNoticeStarts {c : Instr} (s : State) (expiry : c ≠ .noticeTimerExpiry) (restart : resets c = false) :
    s.NoNoticeStarts (effectOf c s) := by
  cases c
  case noticeTimerExpiry => exact absurd rfl expiry
  case restart => cases restart
  case noticeCompletion => exact .completeNotice s
  case symbolDecision => exact .decideSymbol s ..
  case syncEntry => exact .decideSymbol s ..
  case frameAbandon => exact .decideSymbol s ..
  case noticeReceived => exact .decideSymbol s ..
  case contactLoss => exact .filterEdge s .contact false
  case contactReturn => exact .filterEdge s .contact true
  case filterEdge input level => exact .filterEdge s input level
  case ready => exact .enterReady s
  case restartTimerStart => exact .of_eq rfl rfl
  case symbolStrobe => exact .of_eq rfl rfl
  all_goals exact .of_eq (by rw [effectOf_ntx rfl]) (by rw [effectOf_ntx rfl])

/-- A RESTART leaves the transmitter IDLE, or as it was where its frame is refused (R16, R160). -/
theorem restart_not_sending {s : State} {raw : RawInputs} (silent : s.ntx.state ≠ .sending) :
    (effectOf (.restart raw) s).ntx.state ≠ .sending := by
  refine State.examine_keeps (P := fun u => u.ntx.state ≠ .sending) (fun _ h => h) silent
    (fun _ _ => by simpa using silent) (fun _ => ?_)
  simp only [State.restartFrame]
  split
  · simp [State.restarted, Ntx.atReset]
  · simpa using silent

/-- What an expiry does to the own sequence and the transmitter state: a notice starts from IDLE on the wire, and
otherwise none does (R18). -/
theorem State.noticeExpiry_starts (s : State) :
    (s.ntx.state = .idle ∧ s.psq.contact.accepted = true ∧ s.noticeExpiry.ntx.state = .sending ∧
      s.noticeExpiry.ntx.seq = s.ntx.seq + 1) ∨ s.NoNoticeStarts s.noticeExpiry := by
  set v : State := { s with ntx := { s.ntx with noticeTimer := s.ntx.noticeTimer.reload s.cfg.period } } with hv
  have ntx : s.noticeExpiry.ntx = v.ntxExpiry.ntx := by
    rw [show s.noticeExpiry = v.ntxExpiry.sreExpiry from rfl]
    simp
  have reloaded : s.NoNoticeStarts v := .of_eq rfl rfl
  suffices expires : (v.ntx.state = .idle ∧ v.psq.contact.accepted = true ∧ v.ntxExpiry.ntx.state = .sending ∧
      v.ntxExpiry.ntx.seq = v.ntx.seq + 1) ∨ v.NoNoticeStarts v.ntxExpiry by
    rw [NoNoticeStarts, ntx]
    exact expires.imp id reloaded.trans
  unfold State.ntxExpiry
  split
  · next idle =>
    split
    · next contact =>
      obtain ⟨divider, -, starts⟩ := State.startNotice_eq idle
      rw [starts]
      exact .inl ⟨idle, contact, rfl, rfl⟩
    · exact .inr (.of_eq rfl rfl)
  · next muted =>
    right
    exact .quietStep muted
  · exact .inr (.of_eq rfl rfl)
  · exact .inr (.of_eq rfl rfl)

/-- What a command does to the transmitter: no notice starts, or it is a reset after which the carrier rests, or one
starts at the notice timer's expiry (R18). -/
theorem exec_starts {c : Instr} {s t : State} (hx : exec c s = .next t) :
    s.NoNoticeStarts t ∨ (resets c = true ∧ (t.ntx.state = .sending → s.ntx.state = .sending)) ∨
    (c = .noticeTimerExpiry ∧ s.ntx.noticeTimer.due s.now = true ∧ s.ntx.state = .idle ∧
      s.psq.contact.accepted = true ∧ t.ntx.state = .sending ∧ t.ntx.seq = s.ntx.seq + 1) := by
  rcases exec_cases hx with rfl | reset | ⟨-, -, occurs, rfl⟩
  · exact .inl (.of_eq rfl rfl)
  · cases c <;> simp only [holdsReset, Bool.false_eq_true] at reset
    case powerOn => cases hx; exact .inr (.inl ⟨rfl, by simp [Ntx.atReset]⟩)
    case pinReset => cases hx; exact .inr (.inl ⟨rfl, by simp [Ntx.atReset]⟩)
    case resetEnd raw =>
      simp only [exec, execResetEnd] at hx
      split at hx <;> cases hx
      · exact .inr (.inl ⟨rfl, by simp [Ntx.atReset]⟩)
      · exact .inl (.of_eq rfl rfl)
  · have settled (u : State) : u.NoNoticeStarts u.settle := .of_eq (by simp) (by simp)
    by_cases expiry : c = .noticeTimerExpiry
    · subst expiry
      rcases s.noticeExpiry_starts with ⟨idle, contact, sending, seq⟩ | none
      · exact .inr (.inr ⟨rfl, occurs, idle, contact, by simpa [effectOf] using sending, by simpa [effectOf] using seq⟩)
      · exact .inl (none.trans (settled _))
    · cases restart : resets c with
      | false => exact .inl ((effectOf_noNoticeStarts s expiry restart).trans (settled _))
      | true =>
        refine .inr (.inl ⟨rfl, fun sending => ?_⟩)
        by_contra silent
        cases c <;> simp only [resets, Bool.false_eq_true] at restart
        case restart raw => exact restart_not_sending (raw := raw) silent (by simpa using sending)
        all_goals simp only [occursAt, Bool.false_eq_true] at occurs

/-- Settles O16: only a notice timer's expiry starts a notice, and before READY no notice timer runs. -/
theorem carrierOnlyFromNoticeStarts : Obligations.CarrierOnlyFromNoticeStarts := by
  intro c s t quiet hx
  have driven : t.pins.carrierOn = true ↔ t.ntx.state = .sending := by simp [State.pins]
  rcases exec_starts hx with ⟨seq, stays⟩ | ⟨reset, stays⟩ | ⟨expiry, due, idle, contact, sending, seq⟩
  · exact ⟨fun silent sends => absurd (stays sends) silent, fun moved => absurd seq moved, driven⟩
  · exact ⟨fun silent sends => absurd (stays sends) silent, fun _ => .inl reset, driven⟩
  · have ready : s.cfl.loader = .ready := by
      by_contra resting
      rw [(quiet resting).ntx] at due
      simp [Ntx.atReset, Timer.due] at due
    exact ⟨fun _ _ => ⟨expiry, idle, ready, contact, seq⟩, fun _ => .inr ⟨by simp [idle], sending⟩, driven⟩

/-! ## Contact losses (R20, R116, R119 to R125, R143) -/

/-- An edge of a filter's clock (R116, log entry 8). -/
theorem State.onFilterEdge_of {s : State} {input : FilterId} (tick : s.tmb.phase = 0)
    (clock : s.cfl.loader = .ready → s.now.toNat % s.cfg.filterClock input = 0) : s.onFilterEdge input = true := by
  by_cases ready : s.cfl.loader = .ready
  · simp [State.onFilterEdge, Tmb.onTick, tick, clock ready]
  · simp [State.onFilterEdge, Tmb.onTick, tick, State.isReady, ready]

/-- The abort of a notice as one update (R20, R163). -/
theorem State.abortNotice_eq (s : State) : s.abortNotice = if s.ntx.state = .sending then
      { s with
        ntx := if s.ntx.mutePending then
            { s.ntx with state := .muted, quiet := 0, activity := false, symbolEnds := none }
          else { s.ntx with state := .idle, symbolEnds := none },
        dlk := { s.dlk with statusPending := true } }
    else s := by
  unfold State.abortNotice
  split
  · next sending =>
    split
    · rw [State.enterMuted_eq (by simp [sending]), if_pos rfl]
    · rw [State.enterIdle_eq (by simp [sending])]
  · rfl

/-- A contact loss is NTX's abort, PSQ's move and SGM's (R20, R116, R143). -/
theorem exec_contactLoss {s : State} (running : s.held = false) (tick : s.tmb.phase = 0)
    (clock : s.cfl.loader = .ready → s.now.toNat % s.cfg.contactClock = 0)
    (filter : s.psq.contact = { accepted := true, previous := false }) :
    exec .contactLoss s = .next (State.settle {
      (State.abortNotice { s with
        psq := { s.psq with contact := { accepted := false, previous := false } } }).psqContactLost with
      sgm := s.sgm.contactLost }) := by
  have accepts : s.psq.contact.accepts false = true := by simp [filter, InputFilter.accepts]
  have sampled : s.psq.contact.sample false = { accepted := false, previous := false } := by
    simp [filter, InputFilter.sample]
  have onEdge : s.onFilterEdge .contact = true := State.onFilterEdge_of tick clock
  rw [exec_of_occurs (c := .contactLoss) rfl running (by simp only [occursAt, onEdge, accepts]; rfl), effectOf,
    State.contactEdge, accepts, sampled]
  have sgm (u : State) : u.abortNotice.psqContactLost.sgm = u.sgm := by simp
  simp only [if_true, Bool.false_eq_true, if_false, State.contactLost, sgm]
  rfl

/-- Settles O38: the notice's abort, PSQ's move by its state, and the gap's by its phase. -/
theorem contactLosses : Obligations.ContactLosses := by
  intro s running tick clock filter silenced lost retried gap after
  have loses : after lost.psqContactLost := by
    have aborted : State.abortNotice { s with
        psq := { s.psq with contact := { accepted := false, previous := false } } } = lost := by
      rw [State.abortNotice_eq]
      simp only [lost, silenced]
      split <;> rfl
    have crosses : s.sgm.contactLost = gap := by
      simp only [Sgm.contactLost, gap]
      cases s.sgm.phase <;> rfl
    have loss := exec_contactLoss running tick clock filter
    rwa [aborted, crosses] at loss
  have state : lost.psq.state = s.psq.state := rfl
  have counts : lost.psq.retry = s.psq.retry := rfl
  have armed : lost.sgm.armed = decide (s.sgm.phase ≠ .disarmed) := by
    have sgm : lost.sgm = s.sgm := by
      simp only [lost, silenced]
      split <;> rfl
    rw [sgm, Sgm.armed]
    cases s.sgm.phase <;> rfl
  refine ⟨fun at' gapArmed => ?_, fun at' disarmed => ?_, fun at' => ?_, fun at' few => ?_, fun at' many => ?_,
    fun notEngaged notCutting notPrecharge => ?_⟩
  · rwa [show lost.psqContactLost = lost.enterPsq .gapCoast by
      simp [State.psqContactLost, state, at', armed, gapArmed]] at loses
  · rwa [show lost.psqContactLost = lost.enterPsq .dropout by
      simp [State.psqContactLost, state, at', armed, disarmed]] at loses
  · rwa [show lost.psqContactLost = lost.enterPsq .discharge by simp [State.psqContactLost, state, at']] at loses
  · have next : saturate 3 lost.psq.retry = s.psq.retry + 1 := by simp only [saturate, counts]; omega
    rwa [show lost.psqContactLost = (retried (s.psq.retry + 1)).enterPsq .raising by
      simp only [State.psqContactLost, state, at', next, retried]
      rw [if_pos (by omega)]] at loses
  · have third : saturate 3 lost.psq.retry = 3 := by simp only [saturate, counts]; omega
    rwa [show lost.psqContactLost = ((retried 3).setSticky .prechargeFail).enterPsq .discharge by
      simp only [State.psqContactLost, state, at', third, retried]
      rw [if_neg (by omega)]] at loses
  · have stays : lost.psqContactLost = lost := by
      unfold State.psqContactLost
      rw [state]
      split
      · next at' => exact absurd at' notEngaged
      · next at' => exact absurd at' notCutting
      · next at' => exact absurd at' notPrecharge
      · rfl
    rwa [stays] at loses

end Sys2Proof.Machine
end

section
/-! PROOFS. Layouts: notices bit by bit, drive-link frames and the configuration block byte by byte (R5, R12, R157, R172
to R176). -/

namespace Sys2Proof.Machine

/-! ## Fields as bits (R172, R173) -/

/-- The number that a field's bits form after others (R172). -/
theorem foldl_bitsMsb (acc : Nat) : ∀ (width n : Nat),
    (bitsMsb width n).foldl (fun m b => 2 * m + b.toNat) acc = acc * 2 ^ width + n % 2 ^ width
  | 0, n => by simp [bitsMsb, Nat.mod_one]
  | w + 1, n => by
    rw [bitsMsb, List.foldl_cons, foldl_bitsMsb _ w n, Nat.toNat_testBit, Nat.mod_pow_succ, Nat.pow_succ]
    ring

/-- A field reads back the number that its bits were written from (R173). -/
theorem ofNat_numberMsb_bitsMsb {width : Nat} (field : BitVec width) :
    BitVec.ofNat width (numberMsb (bitsMsb width field.toNat)) = field := by
  rw [numberMsb, foldl_bitsMsb]
  simp

/-- A number below the field's range reads back as itself (R12). -/
theorem numberMsb_bitsMsb {width : Nat} (field : BitVec width) :
    numberMsb (bitsMsb width field.toNat) = field.toNat := by
  rw [numberMsb, foldl_bitsMsb, Nat.zero_mul, Nat.zero_add, Nat.mod_eq_of_lt field.isLt]

/-- Where a field stands in a list of bits, its bits stand most significant first (R173). -/
theorem getElem?_of_slice {width : Nat} {field : BitVec width} {bits : List Bool} {start i : Nat}
    (stands : slice bits start width = bitsMsb width field.toNat) (within : i < width) :
    bits[start + i]? = some (field.getMsbD i) := by
  have read : (slice bits start width)[i]? = bits[start + i]? := by
    rw [slice, List.getElem?_take_of_lt within, List.getElem?_drop]
  rw [← read, stands, bitsMsb_getElem? _ within]
  simp [BitVec.getMsbD, BitVec.getLsbD, within]

/-! ## The notice (R5, R12, R173) -/

namespace Notice

variable (n : Notice)

/-- The body's fields in their order, each at its bits (R173). -/
theorem body_fields :
    slice n.body 0 8 = bitsMsb 8 n.station.toNat ∧ slice n.body 8 4 = bitsMsb 4 n.seq.toNat ∧
    slice n.body 12 3 = bitsMsb 3 n.cls.toNat ∧ slice n.body 19 9 = bitsMsb 9 n.demand.toNat ∧
    slice n.body 28 9 = bitsMsb 9 n.offer.toNat ∧ slice n.body 37 8 = bitsMsb 8 n.volts.toNat ∧
    slice n.body 45 3 = bitsMsb 3 n.pilot.toNat :=
  ⟨rfl, rfl, rfl, rfl, rfl, rfl, rfl⟩

@[simp] theorem body_length : n.body.length = 48 := rfl

/-- A notice comes back from its body bits (R173). -/
theorem ofBody_body : Notice.ofBody n.body = n := by
  obtain ⟨station, seq, cls, demand, offer, volts, pilot⟩ := n.body_fields
  simp only [Notice.ofBody, station, seq, cls, demand, offer, volts, pilot, ofNat_numberMsb_bitsMsb]
  rfl

@[simp] theorem record_take : n.record.take 48 = n.body := List.take_left' n.body_length

@[simp] theorem record_drop : n.record.drop 48 = bitsMsb 16 (crcOfBits n.body).toNat := List.drop_left' n.body_length

@[simp] theorem record_length : n.record.length = 64 := by simp [Notice.record]

/-- Where each field of a notice and its check stand among the bits of the record (R173). -/
theorem field_bits (i : Nat) :
    (i < 8 → n.body[i]? = some (n.station.getMsbD i)) ∧
    (i < 4 → n.body[8 + i]? = some (n.seq.getMsbD i)) ∧
    (i < 3 → n.body[12 + i]? = some (n.cls.getMsbD i)) ∧
    (i < 9 → n.body[19 + i]? = some (n.demand.getMsbD i)) ∧
    (i < 9 → n.body[28 + i]? = some (n.offer.getMsbD i)) ∧
    (i < 8 → n.body[37 + i]? = some (n.volts.getMsbD i)) ∧
    (i < 3 → n.body[45 + i]? = some (n.pilot.getMsbD i)) ∧
    (i < 16 → n.record[48 + i]? = some ((crcOfBits n.body).getMsbD i)) := by
  obtain ⟨station, seq, cls, demand, offer, volts, pilot⟩ := n.body_fields
  have check : slice n.record 48 16 = bitsMsb 16 (crcOfBits n.body).toNat := by
    rw [slice, record_drop]
    rfl
  exact ⟨fun within => by simpa using getElem?_of_slice station within, getElem?_of_slice seq, getElem?_of_slice cls,
    getElem?_of_slice demand, getElem?_of_slice offer, getElem?_of_slice volts, getElem?_of_slice pilot,
    getElem?_of_slice check⟩

/-- The check that a record carries agrees with its body (R12, R173). -/
theorem check_agrees : (crcOfBits (n.record.take 48)).toNat = numberMsb (n.record.drop 48) := by
  rw [record_take, record_drop, numberMsb_bitsMsb]

/-- A notice is its preamble and sync pattern and its record (R5). -/
theorem frame_parts :
    n.frame.length = 80 ∧ n.frame.take 16 = [true, false, true, false, true, false, true, false,
      true, false, true, true, false, true, false, false] ∧ n.frame.drop 16 = n.record :=
  ⟨by simp [Notice.frame, preamble, syncPattern], rfl, rfl⟩

end Notice

/-! ## Drive-link frames (R157, R172, R174, R175) -/

theorem numberOfBytes_pair (high low : Byte) : numberOfBytes [high, low] = 256 * high.toNat + low.toNat := by
  simp [numberOfBytes]

theorem bytesMsb_one (n : Nat) : bytesMsb 1 n = [BitVec.ofNat 8 n] := by simp [bytesMsb]

theorem bytesMsb_two (n : Nat) : bytesMsb 2 n = [BitVec.ofNat 8 (n / 256), BitVec.ofNat 8 n] := by simp [bytesMsb]

/-- The last two bytes of a list of two or more. -/
theorem drop_length_sub_two {α : Type} {rest : List α} (long : 2 ≤ rest.length) :
    ∃ high low, rest.drop (rest.length - 2) = [high, low] :=
  List.length_eq_two.mp (by rw [List.length_drop]; omega)

/-- A buffer holds a frame exactly where its bytes are that frame's, with neither mark set (R157). -/
theorem RxBuffer.frame_eq_some_iff (rx : RxBuffer) (ty : Byte) (payload : List Byte) :
    rx.frame = some (ty, payload) ↔
      rx.overlong = false ∧ rx.byteError = false ∧ payload.length < 256 ∧
      ∃ high low : Byte, rx.bytes = ty :: BitVec.ofNat 8 payload.length :: payload ++ [high, low] ∧
        256 * high.toNat + low.toNat = (crcOfBytes (ty :: BitVec.ofNat 8 payload.length :: payload)).toNat := by
  constructor
  · intro held
    unfold RxBuffer.frame at held
    split at held
    · next ty' len rest bytes =>
      split at held
      · cases held
      · next sound =>
        simp only [Bool.or_eq_true, decide_eq_true_eq, not_or, Bool.not_eq_true, Nat.not_lt] at sound
        obtain ⟨⟨long, overlong⟩, byteError⟩ := sound
        dsimp only at held
        split at held
        · next checks =>
          obtain ⟨crc, length⟩ := checks
          obtain ⟨rfl, rfl⟩ := Prod.mk.inj (Option.some.inj held)
          obtain ⟨high, low, last⟩ := drop_length_sub_two long
          have counted : len = BitVec.ofNat 8 (rest.take (rest.length - 2)).length :=
            BitVec.eq_of_toNat_eq (by rw [← length]; simp)
          refine ⟨overlong, byteError, length ▸ len.isLt, high, low, ?_, ?_⟩
          · rw [bytes, ← counted, List.cons_append, List.cons_append, ← last, List.take_append_drop]
          · rw [← counted, crc, last, numberOfBytes_pair]
        · cases held
    · cases held
  · rintro ⟨overlong, byteError, short, high, low, bytes, crc⟩
    have length : (payload ++ [high, low]).length - 2 = payload.length := by simp
    have enough : ¬(payload ++ [high, low]).length < 2 := by simp
    have counted : (BitVec.ofNat 8 payload.length).toNat = payload.length := Nat.mod_eq_of_lt short
    simp only [RxBuffer.frame, bytes, List.cons_append, overlong, byteError, enough, decide_false, Bool.or_self,
      Bool.false_eq_true, if_false, length, List.take_left, List.drop_left, numberOfBytes_pair, crc, counted, and_self,
      if_true]

/-- A buffer with the bytes of a frame holds that frame (R157, R174). -/
theorem RxBuffer.frame_of_frameBytes {rx : RxBuffer} {ty : Byte} {payload : List Byte}
    (bytes : rx.bytes = frameBytes ty payload) (overlong : rx.overlong = false) (byteError : rx.byteError = false)
    (short : payload.length < 256) : rx.frame = some (ty, payload) := by
  refine (rx.frame_eq_some_iff ty payload).mpr ⟨overlong, byteError, short, _, _,
    by rw [bytes, frameBytes, bytesMsb_two], ?_⟩
  have range := (crcOfBytes (ty :: BitVec.ofNat 8 payload.length :: payload)).isLt
  simp only [BitVec.toNat_ofNat]
  omega

/-- A member of a set as its bit of the set's byte (R175). -/
theorem toNat_mul_two_pow (member : Bool) (place : Nat) :
    (if member then 2 ^ place else 0) = member.toNat * 2 ^ place := by cases member <;> simp

/-- The byte of the active causes (R175). -/
theorem Causes.byte_eq (c : Causes) : c.byte = c.clash.toNat * 2 ^ 0 + c.pilotLost.toNat * 2 ^ 1 +
    c.sectionUnknown.toNat * 2 ^ 2 + c.rejoin.toNat * 2 ^ 3 + c.lossy.toNat * 2 ^ 4 + c.voltSuspect.toNat * 2 ^ 5 +
    c.overdraw.toNat * 2 ^ 6 := by
  simp only [Causes.byte, bitsFrom0]
  omega

/-- The byte of the sticky faults (R175). -/
theorem StickySet.byte_eq (f : StickySet) : f.byte = f.raiseFail.toNat * 2 ^ 0 + f.prechargeFail.toNat * 2 ^ 1 +
    f.arcTrip.toNat * 2 ^ 2 + f.linkSilent.toNat * 2 ^ 3 + f.dropoutTimeout.toNat * 2 ^ 4 + f.stuckUp.toNat * 2 ^ 5 +
    f.falseGap.toNat * 2 ^ 6 + f.idSeenElsewhere.toNat * 2 ^ 7 := by
  simp only [StickySet.byte, bitsFrom0]
  omega

/-- The two bytes of a signed average: those of its quotient and of itself (R175). -/
theorem bytesMsb_signed16 (n : Int) : bytesMsb 2 (signed16 n) = [BitVec.ofInt 8 (n / 256), BitVec.ofInt 8 n] := by
  rw [bytesMsb_two, signed16]
  congr 1
  · apply BitVec.eq_of_toNat_eq
    simp only [BitVec.toNat_ofNat, BitVec.toNat_ofInt]
    omega
  · congr 1
    apply BitVec.eq_of_toNat_eq
    simp only [BitVec.toNat_ofNat, BitVec.toNat_ofInt]
    omega

/-- The upper four bits and the lower four of the transmitter byte (R175). -/
theorem transmitterByte (state : TxState) (seq : SeqNo) : BitVec.ofNat 8 (16 * state.code + seq.toNat) =
    (match state with | .off => 0x00#8 | .idle => 0x10 | .sending => 0x20 | .muted => 0x30) |||
      BitVec.ofNat 8 seq.toNat := by
  cases state <;> revert seq <;> decide

/-- A LIMIT frame's payload, byte for byte (R174, R175). -/
theorem LimitFrame.payload_eq (l : LimitFrame) :
    let b (n : Nat) : Byte := BitVec.ofNat 8 n
    l.payload = [b (l.applied / 256), b l.applied, b (l.target / 256), b l.target,
        b (l.grant / 256), b l.grant, b (l.regen / 256), b l.regen, b (l.chopper / 256), b l.chopper,
        b l.ramp.code, b l.sequencer.code, b l.level.severity, b (l.vAvg / 256), b l.vAvg,
        BitVec.ofInt 8 (l.iAvg / 256), BitVec.ofInt 8 l.iAvg, b l.collapse.toNat] := by
  intro b
  rw [LimitFrame.payload, bytesMsb_signed16]
  simp only [bytesMsb_one, bytesMsb_two, List.cons_append, List.nil_append, b]

/-- A STATUS frame's payload, byte for byte (R174, R175). -/
theorem StatusFrame.payload_eq (r : StatusFrame) :
    let b (n : Nat) : Byte := BitVec.ofNat 8 n
    r.payload = [b r.resetCause.code, b (16 * r.loader.code + r.haltReason.code), b r.causes.byte, b r.sticky.byte,
        b (128 * r.sectionKnown.toNat + r.sectionIndex.toNat), b r.entryCount, b r.contestedCount, b r.reducedCount,
        b r.deratedCount, b (r.errorSum / 256), b r.errorSum, b r.foreign,
        b (16 * r.transmitter.code + r.ownSeq.toNat), b r.dropped, r.published, r.voided,
        b r.last.ending.code, b (r.last.steps / 256), b r.last.steps] := by
  intro b
  simp only [StatusFrame.payload, bytesMsb_one, bytesMsb_two, List.cons_append, List.nil_append, BitVec.ofNat_toNat,
    BitVec.setWidth_eq, b]

/-! ## The configuration block (R176) -/

theorem blockField_one (block : List Byte) (i : Nat) : blockField block i 1 = (block.getD i 0).toNat := by
  by_cases inside : i < block.length
  · rw [blockField, slice, List.drop_eq_getElem_cons inside, List.take_succ_cons, List.take_zero]
    simp [numberOfBytes, inside]
  · rw [blockField, slice, List.drop_of_length_le (Nat.not_lt.mp inside)]
    simp [numberOfBytes, Nat.not_lt.mp inside]

theorem blockField_two {block : List Byte} {i : Nat} (inside : i + 1 < block.length) :
    blockField block i 2 = 256 * (block.getD i 0).toNat + (block.getD (i + 1) 0).toNat := by
  rw [blockField, slice, List.drop_eq_getElem_cons (by omega), List.drop_eq_getElem_cons inside, List.take_succ_cons,
    List.take_succ_cons, List.take_zero, numberOfBytes_pair]
  simp [inside, Nat.lt_of_succ_lt inside]

/-- The loader reads each field of the block from its bytes (R176). -/
theorem Image.ofBlock_eq {block : List Byte} (length : block.length = 112) :
    let one (i : Nat) : Nat := (block.getD i 0).toNat
    let two (i : Nat) : Nat := 256 * one i + one (i + 1)
    Image.ofBlock block = {
      stationId := one 0, ownChannel := Fin.ofNat 16 (one 1 / 16), staleLimit := one 1 % 16, period := two 2,
      sectionCount := one 4, guardPercent := one 5, rated := two 6, soloShare := two 8, auxDraw := one 10,
      lossyThreshold := one 11, recoveryRounds := one 12, overdrawMargin := one 13, voltWindow := two 14,
      vCollapse := two 16, vFloor := two 18, vStart := two 20, vTaper := two 22, vCut := two 24, slewUp := one 26,
      slewDown := one 27, slewCut := one 28, deadTime := one 29, chopperRating := two 30, bounceMax := one 32,
      contactClock := one 33, arcWarn := two 34, arcTrip := two 36, raiseTimeout := two 38, retractTimeout := two 40,
      prechargeTime := two 42, reacquireTime := two 44, coastMaximum := two 46, dischargeTime := two 48,
      upClock := one 50, downClock := one 51, pilotTimeout := two 52, gapMargin := two 54, gapGrace := two 56,
      silenceTime := two 58, stowTime := two 60,
      sections := ((List.range 8).map (fun i => {
        pilot := one (62 + 6 * i), capacity := two (63 + 6 * i), reserve := one (65 + 6 * i),
        accept := one (66 + 6 * i), absorb := one (67 + 6 * i) })).take (one 4) } := by
  intro one two
  have oneByte (i : Nat) : blockField block i 1 = one i := blockField_one block i
  have twoBytes (i : Nat) (inside : i + 1 < 112) : blockField block i 2 = two i := blockField_two (length ▸ inside)
  have sections : (List.range 8).map (blockSection block) = (List.range 8).map (fun i => {
      pilot := one (62 + 6 * i), capacity := two (63 + 6 * i), reserve := one (65 + 6 * i),
      accept := one (66 + 6 * i), absorb := one (67 + 6 * i) }) := by
    refine List.map_congr_left fun i member => ?_
    have small : i < 8 := List.mem_range.mp member
    rw [blockSection, twoBytes _ (by omega)]
    simp only [oneByte]
  simp only [Image.ofBlock, oneByte, sections, twoBytes, Nat.reduceAdd, Nat.reduceLT]

/-! ## The statement -/

/-- Settles O52: notices and the block read back field by field, frames byte by byte. -/
theorem noticesAndFramesReadBack : Obligations.NoticesAndFramesReadBack := by
  refine ⟨fun n => ?_, RxBuffer.frame_eq_some_iff, ?_, fun _ length => Image.ofBlock_eq length⟩
  · obtain ⟨length, first, last⟩ := n.frame_parts
    exact ⟨n.body_length, n.ofBody_body, n.record_length, length, by rw [n.record_take, n.ofBody_body],
      n.check_agrees, first, last, n.record_take, n.field_bits, rfl, rfl, rfl, rfl⟩
  · intro f rx bytes overlong byteError b bit
    cases f with
    | refuse ty reason =>
      refine (RxBuffer.frame_of_frameBytes bytes overlong byteError (by decide : 2 < 256)).trans ?_
      cases reason <;> rfl
    | limit l =>
      have payload := l.payload_eq
      have read := RxBuffer.frame_of_frameBytes bytes overlong byteError (by rw [payload]; simp)
      rw [read, payload]
      simp only [Option.some.injEq, Prod.mk.injEq, List.cons.injEq, true_and, and_true, b]
      refine ⟨rfl, ?_, ?_, ?_, ?_⟩
      · cases l.ramp <;> rfl
      · cases l.sequencer <;> rfl
      · cases l.level <;> rfl
      · cases l.collapse <;> rfl
    | status r =>
      have payload := r.payload_eq
      have read := RxBuffer.frame_of_frameBytes bytes overlong byteError (by rw [payload]; simp)
      rw [read, payload]
      simp only [Option.some.injEq, Prod.mk.injEq, List.cons.injEq, true_and, and_true, b, bit,
        toNat_mul_two_pow]
      refine ⟨rfl, ?_, ?_, ?_, ?_, ?_, ?_, ?_⟩
      · cases r.resetCause <;> rfl
      · cases r.loader <;> cases r.haltReason <;> rfl
      · rw [Causes.byte_eq]
      · rw [StickySet.byte_eq]
      · rw [Nat.mul_comm 128]
        rfl
      · rw [transmitterByte]
        cases r.transmitter <;> rfl
      · cases r.last.ending <;> rfl

end Sys2Proof.Machine
end

section
/-! PROOFS. The peer table: ages, acceptance, sweeps and the copy for a round (R24 to R39). -/

namespace Sys2Proof.Machine

/-! ## Ages (R26, R27) -/

/-- An age below 2 is FRESH (R26). -/
theorem Freshness.ofAge_eq_fresh_iff (limit age : Nat) : Freshness.ofAge limit age = .fresh ↔ age ≤ 1 := by
  unfold Freshness.ofAge
  split_ifs <;> simp <;> omega

/-- An age from 2 up to the stale limit is AGING (R26). -/
theorem Freshness.ofAge_eq_aging_iff (limit age : Nat) :
    Freshness.ofAge limit age = .aging ↔ 2 ≤ age ∧ age < limit := by
  unfold Freshness.ofAge
  split_ifs <;> simp <;> omega

/-- An age from the stale limit on is STALE, where the limit leaves room for the other two (R26). -/
theorem Freshness.ofAge_eq_stale_iff {limit : Nat} (room : 2 ≤ limit) (age : Nat) :
    Freshness.ofAge limit age = .stale ↔ limit ≤ age := by
  unfold Freshness.ofAge
  split_ifs <;> simp <;> omega

/-- The time since a record was heard, across any wrap of the tick count (R166). -/
theorem elapsed_add (heardAt : Tick) {ms : Nat} (small : ms < 2 ^ 32) :
    elapsed (heardAt + BitVec.ofNat 32 ms) heardAt = ms := by
  rw [elapsed, add_sub_cancel_left, BitVec.toNat_ofNat, Nat.mod_eq_of_lt small]

section

variable {e : PeerEntry} {c : PeerRecord} {img : Image} {now : Tick}

/-- A record heard more recently is no older (R26). -/
theorem PeerRecord.age_le_of_elapsed_le {r : PeerRecord} (recent : elapsed now r.heardAt ≤ elapsed now c.heardAt) :
    r.age img now ≤ c.age img now :=
  Nat.div_le_div_right recent

/-- The age of an entry without a contender is its primary's (R27). -/
theorem PeerEntry.age_of_uncontested (alone : e.contender = none) : e.age img now = e.primary.age img now := by
  simp only [PeerEntry.age, alone]

/-- The age of a contested entry is the lesser of its records' (R27). -/
theorem PeerEntry.age_of_contested (contested : e.contender = some c) :
    e.age img now = min (e.primary.age img now) (c.age img now) := by
  simp only [PeerEntry.age, contested]

/-- An entry of some record's age has that record's state (R27). -/
theorem PeerEntry.freshness_of_age {r : PeerRecord} (age : e.age img now = r.age img now) :
    e.freshness img now = r.freshness img now := by
  rw [PeerEntry.freshness, age, PeerRecord.freshness]

end

/-- Settles O18: the three states by the age, and an entry's age as the lesser of its records'. -/
theorem statesFollowAges : Obligations.StatesFollowAges := by
  intro img now limit
  refine ⟨fun r => ⟨fun ms small later => ?_, ?_, ?_, ?_⟩,
    fun e => ⟨fun alone => ?_, fun c contested => ⟨fun first => ?_, fun second => ?_, fun either => ?_⟩⟩⟩
  · rw [PeerRecord.age, ageOf, later, elapsed_add _ small]
  · exact Freshness.ofAge_eq_fresh_iff ..
  · rw [PeerRecord.freshness, Freshness.ofAge_eq_aging_iff]
    omega
  · exact Freshness.ofAge_eq_stale_iff (by omega) _
  · have age := PeerEntry.age_of_uncontested (img := img) (now := now) alone
    exact ⟨age, PeerEntry.freshness_of_age age⟩
  · have age : e.age img now = e.primary.age img now := by
      rw [PeerEntry.age_of_contested contested, Nat.min_eq_left (PeerRecord.age_le_of_elapsed_le first)]
    exact ⟨age, PeerEntry.freshness_of_age age⟩
  · have age : e.age img now = c.age img now := by
      rw [PeerEntry.age_of_contested contested, Nat.min_eq_right (PeerRecord.age_le_of_elapsed_le second)]
    exact ⟨age, PeerEntry.freshness_of_age age⟩
  · simp only [PeerRecord.freshness, PeerEntry.freshness, PeerEntry.age_of_contested contested,
      Freshness.ofAge_eq_fresh_iff] at either ⊢
    omega

/-! ## Sweeps (R34, R38, R39) -/

/-- A record is due where it is STALE, or LEAVING with an age of at least 1 (R34, R39). -/
theorem PeerRecord.dueAt_iff (r : PeerRecord) (img : Image) (now : Tick) : r.dueAt img now = true ↔
    r.freshness img now = .stale ∨ (r.cls = .leaving ∧ 1 ≤ r.age img now) := by
  simp [PeerRecord.dueAt]

section

variable {e : PeerEntry} {c : PeerRecord} {img : Image} {now : Tick}

/-- A sweep of an entry without a contender removes it where its primary is due (R39). -/
theorem sweepEntry_of_uncontested (alone : e.contender = none) :
    sweepEntry img now e = if e.primary.dueAt img now then none else some e := by
  obtain ⟨primary, tally, contender⟩ := e
  cases alone
  rfl

/-- A sweep of a contested entry whose contender is due removes it first, and the entry where its primary is due too
(R39). -/
theorem sweepEntry_of_contender_due (contested : e.contender = some c) (due : c.dueAt img now = true) :
    sweepEntry img now e = if e.primary.dueAt img now then none else some { e with contender := none } := by
  simp [sweepEntry, contested, Option.filter, due]

/-- A contender that a sweep leaves takes the place of a primary that is due (R39). -/
theorem sweepEntry_of_contender_stays (contested : e.contender = some c) (stays : ¬c.dueAt img now = true) :
    sweepEntry img now e =
      if e.primary.dueAt img now then some { primary := c, tally := 0, contender := none } else some e := by
  obtain ⟨primary, tally, contender⟩ := e
  cases contested
  simp [sweepEntry, Option.filter, stays]

end

/-- Settles O17: the sweep acts on each place by itself, and on an entry by its contender. -/
theorem sweepRemovesAgedRecords : Obligations.SweepRemovesAgedRecords := by
  intro s due running timer run gone
  have goneIff (r : PeerRecord) : gone r ↔ r.dueAt s.cfg s.now = true := (r.dueAt_iff ..).symm
  refine ⟨s.ptb.slots.map (fun slot => slot.bind (sweepEntry s.cfg s.now)), ?_, fun ch => ?_⟩
  · rw [exec_of_occurs (c := .sweep) rfl running ((Timer.due_iff ..).mpr ⟨due, timer, run⟩)]
    simp only [effectOf, State.sweepTable, timer, Timer.reload, Option.map_some]
    rfl
  · simp only [Fin.getElem_fin, Vector.getElem_map, goneIff]
    refine ⟨fun empty => by rw [empty]; rfl, fun e stands => ?_⟩
    rw [stands, Option.bind_some]
    refine ⟨fun kept alone => ?_, fun kept c contested out => ?_, fun kept c contested stays => ?_,
      fun out alone => ?_, fun out c contested both => ?_, fun out c contested stays => ?_⟩
    · rw [sweepEntry_of_uncontested alone, if_neg kept]
    · rw [sweepEntry_of_contender_due contested out, if_neg kept]
    · rw [sweepEntry_of_contender_stays contested stays, if_neg kept]
    · rw [sweepEntry_of_uncontested alone, if_pos out]
    · rw [sweepEntry_of_contender_due contested both, if_pos out]
    · rw [sweepEntry_of_contender_stays contested stays, if_pos out]

/-! ## Acceptance (R24, R28 to R33) -/

/-- The class of a class value has that value (R6). -/
theorem TruckClass.code_ofCode {n : Nat} (small : n ≤ 5) : ((TruckClass.ofCode n).getD .parked).code = n := by
  match n with
  | 0 | 1 | 2 | 3 | 4 | 5 => rfl
  | n + 6 => omega

/-- The sequence gap counts the notices missed, modulo 16 (R30). -/
theorem seqGap_eq (seq lastSeq : SeqNo) : seqGap seq lastSeq = (seq.toNat + 15 - lastSeq.toNat) % 16 := by
  simp only [seqGap]
  bv_omega

/-- A record was heard longer ago than another where more time has elapsed since (R33). -/
theorem PeerRecord.olderThan_iff (r other : PeerRecord) (now : Tick) :
    r.olderThan other now = true ↔ (now - other.heardAt).toNat < (now - r.heardAt).toNat :=
  decide_eq_true_iff

section

variable {e : PeerEntry} {r c : PeerRecord} {img : Image} {now : Tick}

/-- The primary's station updates its record and the loss tally (R30). -/
theorem acceptRecord_same (same : e.primary.station = r.station) : acceptRecord img now (some e) r =
    { e with primary := r, tally := tallyAfter e.tally (seqGap r.lastSeq e.primary.lastSeq) } := by
  simp only [acceptRecord, if_pos same.symm]

/-- Another station replaces a STALE primary, and the contender with it (R31). -/
theorem acceptRecord_stale (other : e.primary.station ≠ r.station) (stale : e.primary.freshness img now = .stale) :
    acceptRecord img now (some e) r = { primary := r, tally := 0, contender := none } := by
  simp only [acceptRecord, if_neg other.symm, if_pos stale]

/-- Another station becomes the contender of a primary that is not STALE (R32). -/
theorem acceptRecord_uncontested (other : e.primary.station ≠ r.station)
    (live : e.primary.freshness img now ≠ .stale) (alone : e.contender = none) :
    acceptRecord img now (some e) r = { e with contender := some r } := by
  simp only [acceptRecord, if_neg other.symm, if_neg live, alone]

/-- The contender's station renews its record, and a third station replaces the record that was heard longer ago (R32,
R33). -/
theorem acceptRecord_contested (other : e.primary.station ≠ r.station) (live : e.primary.freshness img now ≠ .stale)
    (contested : e.contender = some c) : acceptRecord img now (some e) r =
      if c.station = r.station then { e with contender := some r }
      else if e.primary.olderThan c now then { primary := r, tally := 0, contender := some c }
      else { e with contender := some r } := by
  simp only [acceptRecord, if_neg other.symm, if_neg live, contested, eq_comm (a := c.station)]

end

/-- A record that a peer channel delivers reaches PTB, which enters it (R13, R14, R28). -/
theorem State.PeerDelivers.exec_noticeReceived {s : State} {ch : Channel} {mark : Bool} {n : Notice}
    (h : s.PeerDelivers ch mark n) :
    exec (.noticeReceived ch mark) s = .next (State.settle { s.recordTaken ch mark with
      ptb := { s.ptb with
        slots := s.ptb.slots.set ch (some (acceptRecord s.cfg s.now s.ptb.slots[ch] (.ofNotice n s.now))) } }) := by
  obtain ⟨bits, completes, passes⟩ := h.record
  rw [completes.exec_noticeReceived, State.checkRecord_passes completes.full passes]
  set u := s.recordTaken ch mark
  have peer : ¬ch = u.cfg.ownChannel := h.peer
  have home : ¬(u.sectionKnown = true ∧ n.pilot ≠ u.sectionIndex) := fun e => e.2 (h.pilot e.1)
  rw [if_neg (fun e => peer e.1), if_neg home, if_neg peer, State.peerDelivery,
    if_neg (show ¬n.station.toNat = u.cfg.stationId from h.station)]
  rfl

/-- Settles O12: the record written from the notice, and its acceptance by the entry that it finds. -/
theorem peerNoticeAcceptance : Obligations.PeerNoticeAcceptance := by
  intro s ch mark n delivers
  obtain ⟨_, _, passes⟩ := delivers.record
  set r := PeerRecord.ofNotice n s.now with written
  refine ⟨r, acceptRecord s.cfg s.now s.ptb.slots[ch] r, delivers.exec_noticeReceived, rfl,
    TruckClass.code_ofCode passes.cls, rfl, rfl, rfl, rfl, rfl, rfl, fun empty => by rw [empty]; rfl,
    fun p stands => ?_⟩
  rw [stands]
  refine ⟨fun same => ?_, fun other stale => acceptRecord_stale other stale,
    fun other live => ⟨fun alone => acceptRecord_uncontested other live alone, fun c contested => ?_⟩⟩
  · rw [acceptRecord_same same, seqGap_eq]
    rfl
  · rw [acceptRecord_contested other live contested]
    refine ⟨fun same => if_pos same, fun third older => ?_, fun third recent => ?_⟩
    · rw [if_neg third, if_pos ((PeerRecord.olderThan_iff ..).mpr older)]
    · rw [if_neg third, if_neg (mt (PeerRecord.olderThan_iff ..).mp (Nat.not_lt.mpr recent))]

/-! ## The copy for a round (R35, R36) -/

/-- A record qualifies where it is FRESH, or AGING without GAP_ARMED (R35, R36). -/
theorem PeerRecord.qualifies_eq (r : PeerRecord) (img : Image) (now : Tick) : r.qualifies img now =
    (decide (r.freshness img now = .fresh) || (decide (r.freshness img now = .aging) && !r.flags.gapArmed)) := by
  unfold PeerRecord.qualifies
  cases r.freshness img now <;> simp

/-- The table's entries are those of its places, each with its channel (R25, R36). -/
theorem Ptb.mem_entries_iff (p : Ptb) (ch : Channel) (e : PeerEntry) :
    (ch, e) ∈ p.entries ↔ p.slots[ch] = some e := by
  simp [Ptb.entries]

/-- The channels with an entry, in ascending order (R36). -/
theorem Ptb.entries_map_fst (p : Ptb) :
    p.entries.map Prod.fst = (List.finRange 16).filter (fun ch => (p.slots[ch]).isSome) := by
  rw [Ptb.entries, List.map_filterMap, ← List.filterMap_eq_filter]
  congr 1
  funext ch
  cases h : p.slots[ch] <;> simp [Option.guard, h]

/-- The copy's channels are the table's (R36). -/
theorem State.peerCopy_map_channel (s : State) :
    s.peerCopy.map CopyEntry.channel = (List.finRange 16).filter (fun ch => (s.ptb.slots[ch]).isSome) := by
  rw [← Ptb.entries_map_fst, State.peerCopy, List.map_map]
  rfl

/-- The copy holds the copies of the table's entries (R36). -/
theorem State.mem_peerCopy_iff (s : State) (ce : CopyEntry) : ce ∈ s.peerCopy ↔
    ∃ e : PeerEntry, s.ptb.slots[ce.channel] = some e ∧ ce = e.copy ce.channel s.cfg s.now := by
  simp only [State.peerCopy, List.mem_map, Prod.exists, Ptb.mem_entries_iff]
  constructor
  · rintro ⟨ch, e, stands, rfl⟩
    exact ⟨e, stands, rfl⟩
  · rintro ⟨e, stands, copied⟩
    exact ⟨ce.channel, e, stands, copied.symm⟩

/-- A copied entry lists at most two records, a primary's and a contender's (R25, R36). -/
theorem State.records_le_of_mem_peerCopy {s : State} {ce : CopyEntry} (member : ce ∈ s.peerCopy) :
    ce.records.length ≤ 2 := by
  obtain ⟨e, -, copied⟩ := (s.mem_peerCopy_iff ce).mp member
  rw [copied, PeerEntry.copy, List.length_map]
  calc (e.records.filter fun r => r.qualifies s.cfg s.now).length
      ≤ e.records.length := List.length_filter_le ..
    _ ≤ 2 := by cases h : e.contender <;> simp [PeerEntry.records, h]

/-- At most 15 channels have an entry where the own channel has none (R28, R36). -/
theorem State.peerCopy_length_le {s : State} (own : s.ptb.slots[s.cfg.ownChannel] = none) :
    s.peerCopy.length ≤ 15 := by
  have fewer : ((List.finRange 16).filter (fun ch => (s.ptb.slots[ch]).isSome)).length < (List.finRange 16).length :=
    List.length_filter_lt_length_iff_exists.mpr ⟨s.cfg.ownChannel, List.mem_finRange _, by rw [own]; simp⟩
  rw [← s.peerCopy_map_channel, List.length_map, List.length_finRange] at fewer
  omega

/-- Settles O19: the copy's channels and its members, and at most two records for each of at most 15 entries. -/
theorem roundCopyListsTheTable : Obligations.RoundCopyListsTheTable := by
  intro s
  refine ⟨?_, fun ce => ?_, fun own => ⟨State.peerCopy_length_le own, ?_⟩⟩
  · rw [s.peerCopy_map_channel]
    exact (List.pairwise_lt_finRange 16).filter _
  · simp only [s.mem_peerCopy_iff, ← PeerRecord.qualifies_eq]
    obtain ⟨channel, freshness, tally, contested, records⟩ := ce
    simp only [PeerEntry.copy, CopyEntry.mk.injEq, true_and]
    rfl
  · have each := List.sum_le_card_nsmul (s.peerCopy.map fun ce => ce.records.length) 2 (by
      simpa using fun ce member => State.records_le_of_mem_peerCopy member)
    have few := State.peerCopy_length_le own
    rw [List.length_map, smul_eq_mul] at each
    rw [List.length_flatMap]
    omega

end Sys2Proof.Machine
end

section
/-! PROOFS. Share rounds: the level search, shares, factors, grants and regeneration (R49 to R61). -/

namespace Sys2Proof.Machine

/-! ## Parts of a whole (R50, R51, R55, R56, R58, R60) -/

/-- A part of an amount, by a fraction of at most 1, is at most the amount. -/
theorem mul_div_le_of_le {part whole : Nat} (amount : Nat) (fraction : part ≤ whole) : amount * part / whole ≤ amount :=
  Nat.div_le_of_le_mul (by rw [Nat.mul_comm whole]; exact Nat.mul_le_mul_left amount fraction)

/-- The guard reduction only reduces (R51). -/
theorem guardedAmount_le (mode : Level) (guardPercent amount : Nat) :
    guardedAmount mode guardPercent amount ≤ amount := by
  unfold guardedAmount
  split
  · exact mul_div_le_of_le amount (Nat.sub_le ..)
  · exact Nat.le_refl _

/-- Settles O22: the credit's own bound keeps E within 2,000 + 1,000, and no guard reduction raises it. -/
theorem effectiveCapacityFollowsCredit : Obligations.EffectiveCapacityFollowsCredit := by
  intro record guardPercent stations offers credit e0
  have credited : creditOf record stations = credit := rfl
  have half : credit ≤ record.capacity / 2 := Nat.min_le_right ..
  set unguarded := record.capacity + credit - record.reserve with hu
  have capacity (mode : Level) :
      effectiveCapacity record mode guardPercent stations = guardedAmount mode guardPercent unguarded := rfl
  have clamped : (unguarded : Int) = e0 := by simp only [e0]; omega
  refine ⟨credited, fun noOffer => ?_, ?_, fun percent => ?_, fun most mode => ?_⟩
  · simp only [credit, noOffer, Nat.zero_mul, Nat.zero_div, Nat.zero_min]
  · rw [capacity, ← clamped]
    rfl
  · rw [capacity, ← clamped, guardedAmount, if_pos rfl]
    push_cast [percent]
    rfl
  · have reduced := guardedAmount_le mode guardPercent unguarded
    rw [capacity]
    omega

/-! ## The level search (R52, R53, R59) -/

/-- Each weight reaches at most one beyond what the weights after it reach together, so that the search skips no level
(R53). -/
def NoLevelSkipped : List Nat → Prop
  | [] => True
  | w :: rest => w ≤ rest.sum + 1 ∧ NoLevelSkipped rest

theorem searchWeights_noLevelSkipped : NoLevelSkipped searchWeights := by
  simp [searchWeights, NoLevelSkipped]

/-- From a candidate whose sum is within the bound, the search finds the greatest level within its reach whose sum is
(R53). -/
theorem search_isGreatest {f : Nat → Nat} {bound : Nat} (rises : Monotone f) : ∀ {weights : List Nat} {candidate : Nat},
    NoLevelSkipped weights → f candidate ≤ bound →
    IsGreatest {level | level ≤ candidate + weights.sum ∧ f level ≤ bound}
      (weights.foldl (fun c w => if f (c + w) ≤ bound then c + w else c) candidate)
  | [], candidate, _, within => ⟨⟨Nat.le_refl _, within⟩, fun _ reached => reached.1⟩
  | w :: rest, candidate, ⟨noGap, skipsNone⟩, within => by
    simp only [List.foldl_cons, List.sum_cons]
    split
    · next taken => simpa only [Nat.add_assoc] using search_isGreatest rises skipsNone taken
    · next exceeds =>
      obtain ⟨⟨reach, fits⟩, greatest⟩ := search_isGreatest rises skipsNone within
      refine ⟨⟨by omega, fits⟩, fun level ⟨_, levelFits⟩ => greatest ⟨?_, levelFits⟩⟩
      have below : level < candidate + w := by
        by_contra above
        exact exceeds (Nat.le_trans (rises (Nat.not_lt.mp above)) levelFits)
      omega

/-- The ten steps of the search find the greatest level in 0..1023 whose sum is within the bound (R52, R53). -/
theorem levelSearch_isGreatest {f : Nat → Nat} (rises : Monotone f) (zero : f 0 = 0) (bound : Nat) :
    IsGreatest {level | level ≤ 1023 ∧ f level ≤ bound} (levelSearch f bound) := by
  have found := search_isGreatest (bound := bound) rises searchWeights_noLevelSkipped (candidate := 0)
    (by simp only [zero, Nat.zero_le])
  have reach : 0 + searchWeights.sum = 1023 := rfl
  rwa [reach] at found

/-- A greater figure for each station gives no lesser sum. -/
theorem sumOver_le {stations : List Station} {member : Station → Bool} {figure other : Station → Nat}
    (each : ∀ st, figure st ≤ other st) : sumOver stations member figure ≤ sumOver stations member other :=
  List.sum_le_sum fun st _ => each st

theorem drawAtLevel_monotone (stations : List Station) : Monotone (drawAtLevel stations) := fun _ _ rise =>
  sumOver_le fun _ => min_le_min_left _ (Nat.mul_le_mul_left _ rise)

theorem regenAtLevel_monotone (stations : List Station) : Monotone (regenAtLevel stations) := fun _ _ rise =>
  sumOver_le fun _ => min_le_min_left _ rise

@[simp] theorem drawAtLevel_zero (stations : List Station) : drawAtLevel stations 0 = 0 := by
  simp [drawAtLevel, sumOver]

@[simp] theorem regenAtLevel_zero (stations : List Station) : regenAtLevel stations 0 = 0 := by
  simp [regenAtLevel, sumOver]

/-- L, the level of the consumers (R52). -/
theorem drawLevel_isGreatest (stations : List Station) (bound : Nat) :
    IsGreatest {level | level ≤ 1023 ∧ drawAtLevel stations level ≤ bound}
      (levelSearch (drawAtLevel stations) bound) :=
  levelSearch_isGreatest (drawAtLevel_monotone stations) (drawAtLevel_zero stations) bound

/-- The level of the regenerators (R59). -/
theorem regenLevel_isGreatest (stations : List Station) (bound : Nat) :
    IsGreatest {level | level ≤ 1023 ∧ regenAtLevel stations level ≤ bound}
      (levelSearch (regenAtLevel stations) bound) :=
  levelSearch_isGreatest (regenAtLevel_monotone stations) (regenAtLevel_zero stations) bound

/-! ## The own share (R49, R52, R54) -/

/-- The consumers are the stations of a weighted class with a demand (R49). -/
theorem Station.consumes_iff (st : Station) : st.consumes = true ↔ 0 < st.cls.weight ∧ 0 < st.demand := by
  simp [Station.consumes]

/-- No level draws more than the consumers demand (R52). -/
theorem drawAtLevel_le_demand (stations : List Station) (level : Nat) :
    drawAtLevel stations level ≤ sumOver stations Station.consumes Station.demand :=
  sumOver_le fun _ => Nat.min_le_left ..

/-- A consumer draws at every level but 0 (R52). -/
theorem drawAtLevel_pos {stations : List Station} {st : Station} (listed : st ∈ stations)
    (consumer : st.consumes = true) {level : Nat} (above : 0 < level) : 0 < drawAtLevel stations level := by
  obtain ⟨weighted, demanding⟩ := st.consumes_iff.mp consumer
  have own : 0 < min st.demand (st.cls.weight * level) := Nat.lt_min.mpr ⟨demanding, Nat.mul_pos weighted above⟩
  have member : min st.demand (st.cls.weight * level) ∈ (stations.filter Station.consumes).map
      (fun st => min st.demand (st.cls.weight * level)) :=
    List.mem_map.mpr ⟨st, List.mem_filter.mpr ⟨listed, consumer⟩, rfl⟩
  exact Nat.lt_of_lt_of_le own (List.le_sum_of_mem member)

section

variable {r : Round} {img : Image}

/-- A station that is no consumer has no share (R52). -/
theorem Round.share_of_not_consumes (other : r.snapshot.self.consumes = false) : r.share img = 0 := by
  simp [Round.share, other]

/-- The share in SOLO (R54). -/
theorem Round.share_of_solo (consumer : r.snapshot.self.consumes = true) (solo : r.mode = .solo) :
    r.share img = min r.snapshot.self.demand img.soloShare := by
  simp [Round.share, consumer, solo]

/-- The share outside SOLO, at the level found (R52). -/
theorem Round.share_of_shared (consumer : r.snapshot.self.consumes = true) (shared : r.mode ≠ .solo) :
    r.share img = min r.snapshot.self.demand (r.snapshot.self.cls.weight * levelSearch (drawAtLevel r.stations)
      (effectiveCapacity r.snapshot.record r.mode img.guardPercent r.stations)) := by
  simp [Round.share, consumer, shared]

end

/-- No share exceeds the own demand (R52, R54). -/
theorem Round.share_le_demand (r : Round) (img : Image) : r.share img ≤ r.snapshot.own.demand := by
  cases consumer : r.snapshot.self.consumes with
  | false => rw [Round.share_of_not_consumes consumer]; exact Nat.zero_le _
  | true =>
    by_cases solo : r.mode = .solo
    · rw [Round.share_of_solo consumer solo]; exact Nat.min_le_left ..
    · rw [Round.share_of_shared consumer solo]; exact Nat.min_le_left ..

/-- In SOLO no share exceeds the solo share (R54). -/
theorem Round.share_le_soloShare {r : Round} (solo : r.mode = .solo) (img : Image) : r.share img ≤ img.soloShare := by
  cases consumer : r.snapshot.self.consumes with
  | false => rw [Round.share_of_not_consumes consumer]; exact Nat.zero_le _
  | true => rw [Round.share_of_solo consumer solo]; exact Nat.min_le_right ..

/-- Settles O21: the level that the search finds, with its two ends: the whole demand within the bound, and a bound of
0. -/
theorem ownShareIsTheGreatestLevel : Obligations.OwnShareIsTheGreatestLevel := by
  intro r img self bound drawn
  refine ⟨Round.share_of_not_consumes, Round.share_of_solo, fun consumer shared => ?_⟩
  obtain ⟨⟨reach, fits⟩, greatest⟩ := drawLevel_isGreatest r.stations bound
  have share := Round.share_of_shared (img := img) consumer shared
  obtain ⟨weighted, -⟩ := self.consumes_iff.mp consumer
  refine ⟨levelSearch (drawAtLevel r.stations) bound, reach, fits, fun other low within => greatest ⟨low, within⟩,
    share, fun _ small enough => ?_, fun listed noCapacity => ?_⟩
  · have top : levelSearch (drawAtLevel r.stations) bound = 1023 :=
      Nat.le_antisymm reach (greatest ⟨Nat.le_refl _, Nat.le_trans (drawAtLevel_le_demand ..) enough⟩)
    refine ⟨top, ?_⟩
    rw [share, top, Nat.min_eq_left (show self.demand ≤ self.cls.weight * 1023 by omega)]
  · have bottom : levelSearch (drawAtLevel r.stations) bound = 0 := by
      by_contra above
      have draws := drawAtLevel_pos listed consumer (Nat.pos_of_ne_zero above)
      omega
    exact ⟨bottom, by rw [share, bottom, Nat.mul_zero, Nat.min_zero]⟩

/-! ## The factors (R55, R60) -/

/-- The derating factor lies in 0..256 (R55, R60). -/
theorem deratingFactor_le (vAvg vFloor vStart : Nat) : deratingFactor vAvg vFloor vStart ≤ 256 := by
  unfold deratingFactor
  split
  · exact Nat.le_refl _
  · split
    · exact Nat.zero_le _
    · rw [Nat.mul_comm]
      exact mul_div_le_of_le 256 (by omega)

/-- The taper factor lies in 0..256 (R60). -/
theorem taperFactor_le (vAvg vTaper vCut : Nat) : taperFactor vAvg vTaper vCut ≤ 256 := by
  unfold taperFactor
  split
  · exact Nat.le_refl _
  · split
    · exact Nat.zero_le _
    · rw [Nat.mul_comm]
      exact mul_div_le_of_le 256 (by omega)

/-- From V_cut on the taper factor is 0 (R60). -/
theorem taperFactor_of_cut {vAvg vTaper vCut : Nat} (order : vTaper < vCut) (high : vCut ≤ vAvg) :
    taperFactor vAvg vTaper vCut = 0 := by
  rw [taperFactor, if_neg (by omega), if_pos high]

/-- Settles O23: the two tables by the band that the average lies in, and the search's reach. -/
theorem factorsStayOnTheirScale : Obligations.FactorsStayOnTheirScale := by
  refine ⟨fun vAvg vFloor vStart order => ⟨fun high => if_pos high, fun low => ?_, fun above below => ?_,
      deratingFactor_le ..⟩,
    fun vAvg vTaper vCut order => ⟨fun low => if_pos low, taperFactor_of_cut order, fun above below => ?_,
      taperFactor_le ..⟩,
    fun stations bound => ⟨(drawLevel_isGreatest stations bound).1.1, (regenLevel_isGreatest stations bound).1.1⟩⟩
  · rw [deratingFactor, if_neg (by omega), if_pos low]
  · rw [deratingFactor, if_neg (by omega), if_neg (by omega)]
    push_cast [above.le, order.le]
    rfl
  · rw [taperFactor, if_neg (by omega), if_neg (by omega)]
    push_cast [below.le, order.le]
    rfl

/-! ## The grant (R56) -/

section

variable {share factor auxDraw : Nat}

/-- A share below the auxiliary draw is only derated (R56). -/
theorem grantOf_of_lt (short : share < auxDraw) : grantOf share factor auxDraw = share * factor / 256 := by
  rw [grantOf, if_neg (by omega)]

/-- A share that reaches the auxiliary draw is granted at least that draw (R56). -/
theorem grantOf_of_le (reaches : auxDraw ≤ share) :
    grantOf share factor auxDraw = max auxDraw (share * factor / 256) := by
  simp only [grantOf]
  split <;> omega

/-- No grant exceeds its share, by a factor on the scale (R56). -/
theorem grantOf_le (scale : factor ≤ 256) : grantOf share factor auxDraw ≤ share := by
  have derated := mul_div_le_of_le share scale
  rcases Nat.lt_or_ge share auxDraw with short | reaches
  · rw [grantOf_of_lt short]; exact derated
  · rw [grantOf_of_le reaches]; exact Nat.max_le.mpr ⟨reaches, derated⟩

end

/-- Settles O24: the grant is within the share, and the share within its own bounds. -/
theorem grantStaysWithinTheShare : Obligations.GrantStaysWithinTheShare := by
  intro r img order share factor
  have within : r.grant img ≤ share := grantOf_le (deratingFactor_le ..)
  exact ⟨grantOf_of_lt, grantOf_of_le, within, within.trans (r.share_le_demand img),
    fun solo => within.trans (Round.share_le_soloShare solo img)⟩

/-! ## The regen limit and the chopper demand (R58 to R61) -/

section

variable {r : Round} {img : Image}

/-- A station that is no regenerator has neither (R61). -/
theorem Round.regen_of_not_regenerates (other : r.snapshot.self.regenerates = false) :
    r.regenLimit img = 0 ∧ r.chopperDemand img = 0 := by
  simp [Round.regenLimit, Round.chopperDemand, other]

/-- In SOLO nothing is returned (R61). -/
theorem Round.regenLimit_of_solo (solo : r.mode = .solo) : r.regenLimit img = 0 := by
  simp [Round.regenLimit, solo]

/-- Outside SOLO the offer up to the level found is returned, tapered (R59, R60). -/
theorem Round.regenLimit_of_shared (regenerator : r.snapshot.self.regenerates = true) (shared : r.mode ≠ .solo) :
    r.regenLimit img = min r.snapshot.self.offer (levelSearch (regenAtLevel r.stations) (r.absorption img)) *
      taperFactor r.snapshot.vAvg img.vTaper img.vCut / 256 := by
  simp [Round.regenLimit, regenerator, shared]

/-- The regen limit is within the own offer (R61). -/
theorem Round.regenLimit_le_offer (regenerator : r.snapshot.self.regenerates = true) :
    r.regenLimit img ≤ r.snapshot.self.offer := by
  by_cases solo : r.mode = .solo
  · rw [Round.regenLimit_of_solo solo]; exact Nat.zero_le _
  · rw [Round.regenLimit_of_shared regenerator solo]
    exact (mul_div_le_of_le _ (taperFactor_le ..)).trans (Nat.min_le_left ..)

/-- The chopper takes what is not returned (R61). -/
theorem Round.regen_add_chopper (regenerator : r.snapshot.self.regenerates = true) :
    r.regenLimit img + r.chopperDemand img = r.snapshot.self.offer := by
  rw [Round.chopperDemand, if_pos regenerator]
  exact Nat.add_sub_cancel' (Round.regenLimit_le_offer regenerator)

end

/-- Settles O25: the two parts of the offer, and the level that the search finds within the absorption. -/
theorem regenAndChopperShareTheOffer : Obligations.RegenAndChopperShareTheOffer := by
  intro r img order self demands taken full absorption
  have absorbs : r.absorption img = absorption := rfl
  refine ⟨Round.regen_of_not_regenerates, fun regenerator => ⟨Round.regen_add_chopper regenerator, ?_,
    fun shared => ?_⟩⟩
  · intro untaken
    by_cases solo : r.mode = .solo
    · exact Round.regenLimit_of_solo solo
    · rw [Round.regenLimit_of_shared regenerator solo, taperFactor_of_cut order (untaken.resolve_left solo),
        Nat.mul_zero, Nat.zero_div]
  · obtain ⟨⟨reach, fits⟩, greatest⟩ := regenLevel_isGreatest r.stations (r.absorption img)
    rw [absorbs] at reach fits greatest
    refine ⟨levelSearch (regenAtLevel r.stations) absorption, reach, fits,
      fun other low within => greatest ⟨low, within⟩, ?_⟩
    rw [Round.regenLimit_of_shared regenerator shared, absorbs]

end Sys2Proof.Machine
end

section
/-! PROOFS. Share rounds: their start, their completion, and what changes the published values (R43 to R48, R62 to
R68). -/

namespace Sys2Proof.Machine

/-! ## The chopper and the ramp at a change of the published values (R85, R98) -/

/-- A redraw as one update: DRP recomposes, and BCH, which does not read DRP, takes its values (R85, R98). -/
theorem State.redraw_eq (s : State) (cutArrives : Bool) : s.redraw cutArrives =
    { s with drp := (s.recompose cutArrives).drp, bch := s.refreshChopper.bch } := by
  simp only [State.redraw, State.recompose, State.refreshChopper]
  (repeat' split) <;> rfl

/-- The values in force after an event at one of their inputs (R85). -/
theorem State.refreshChopper_inForce (s : State) :
    (s.refreshChopper.bch.regenInForce, s.refreshChopper.bch.chopperInForce) =
      inForce s.psq.state s.sgm.cut s.sre.regen s.sre.chopper := by
  rw [State.refreshChopper_bch]
  dsimp only
  split <;> rfl

/-- Without published values none are in force, in any state (R85). -/
theorem inForce_zero (state : PsqState) (gapCut : Bool) : inForce state gapCut 0 0 = (0, 0) := by
  cases state
  case engaged => cases gapCut <;> rfl
  all_goals rfl

/-! ## The start of a round (R44 to R47) -/

/-- The own record as a round reads it, field by field (R45, R158). -/
theorem Dlk.ownAsRead_eq (d : Dlk) : d.ownAsRead =
    { cls := d.own.cls, demand := if d.silence then 0 else d.own.demand,
      offer := if d.silence then 0 else d.own.offer } := by
  unfold Dlk.ownAsRead
  cases d.silence <;> rfl

/-- A round's mode: SOLO by the level or for want of a section, the level otherwise (R47). -/
theorem Snapshot.mode_eq (snap : Snapshot) :
    snap.mode = if snap.level = .solo ∨ snap.sectionKnown = false then .solo else snap.level := by
  unfold Snapshot.mode
  cases snap.sectionKnown with
  | false => simp
  | true => simp +contextual

/-- NTX's part in an expiry leaves the level: the most that it does at CFM is a clear (R23, R149). -/
theorem State.ntxExpiry_level (s : State) : s.ntxExpiry.cfm.level = s.cfm.level := by
  unfold State.ntxExpiry
  split
  · split
    · simp
    · rfl
  · next muted =>
    obtain ⟨active, few, many⟩ := State.quietStep_cases muted
    cases act : s.ntx.activity with
    | true => rw [active act]
    | false =>
      by_cases short : s.ntx.quiet < 7
      · rw [few act short]
      · rw [many act (Nat.not_lt.mp short)]; rfl
  · rfl
  · rfl

/-- NTX's part in an expiry leaves all that a round's snapshot reads (R45). -/
theorem State.ntxExpiry_snapshot (s : State) : s.ntxExpiry.snapshot = s.snapshot := by
  have own : s.ntxExpiry.dlk.ownAsRead = s.dlk.ownAsRead := by rw [State.ntxExpiry_eq]; rfl
  simp [State.snapshot, State.currentSection, State.peerCopy, own, State.ntxExpiry_level]

/-- All that an expiry of the notice timer changes; a change of the transmitter state is a STATUS trigger (R44,
R163). -/
theorem State.noticeExpiry_eq (s : State) : s.noticeExpiry = { s with
    ntx := s.noticeExpiry.ntx, cfm := s.noticeExpiry.cfm, sre := s.noticeExpiry.sre, drp := s.noticeExpiry.drp,
    bch := s.noticeExpiry.bch, fresh := s.noticeExpiry.fresh,
    dlk := { s.dlk with
      statusPending := s.dlk.statusPending || decide (s.noticeExpiry.ntx.state ≠ s.ntx.state) } } := by
  rw [State.noticeExpiry, State.sreExpiry_eq, State.ntxExpiry_eq]

/-- In PRECHARGE and ENGAGED an expiry starts a round from what the blocks hold at it (R44, R47). -/
theorem State.noticeExpiry_starts_round {s : State} (shares : s.psq.state = .precharge ∨ s.psq.state = .engaged) :
    s.noticeExpiry.drp = s.drp ∧ s.noticeExpiry.bch = s.bch ∧ s.noticeExpiry.sre = { s.sre with round := some {
      snapshot := s.snapshot, stations := s.snapshot.stations, mode := s.snapshot.mode, startedAt := s.now,
      tags := { sectionIndex := s.snapshot.sectionIndex, sectionKnown := s.snapshot.sectionKnown,
                level := s.snapshot.level } } } := by
  set v : State := { s with ntx := { s.ntx with noticeTimer := s.ntx.noticeTimer.reload s.cfg.period } } with hv
  have starts : s.noticeExpiry = v.ntxExpiry.startRound := by
    rw [State.noticeExpiry, State.sreExpiry, if_pos (by simpa using shares)]
  have snapshot : v.ntxExpiry.snapshot = s.snapshot := v.ntxExpiry_snapshot
  rw [starts]
  refine ⟨by simp [hv], by simp [hv], ?_⟩
  simp only [State.startRound, snapshot]
  simp [hv, State.now]

/-- In every other state an expiry sets the three published values to 0, and DRP and BCH follow (R44, R85, R98). -/
theorem State.noticeExpiry_zeroes {s : State} (notPrecharge : s.psq.state ≠ .precharge)
    (notEngaged : s.psq.state ≠ .engaged) :
    let zeroed : State := { s with sre := { s.sre with grant := 0, regen := 0, chopper := 0 } }
    s.noticeExpiry.sre = zeroed.sre ∧ s.noticeExpiry.bch = zeroed.refreshChopper.bch ∧
      s.noticeExpiry.drp = (zeroed.recompose false).drp := by
  intro zeroed
  set v : State := { s with ntx := { s.ntx with noticeTimer := s.ntx.noticeTimer.reload s.cfg.period } } with hv
  have zeroes : s.noticeExpiry = v.ntxExpiry.zeroPublished := by
    rw [State.noticeExpiry, State.sreExpiry, if_neg (by simp [notPrecharge, notEngaged])]
  rw [zeroes, State.zeroPublished, State.redraw_eq, State.ntxExpiry_eq]
  refine ⟨rfl, ?_, ?_⟩
  · simp only [State.refreshChopper_bch]; rfl
  · simp only [State.recompose_drp]; rfl

/-- Settles O20: an expiry's two cases at SRE, beside the transmitter's move. -/
theorem noticeExpiryAtRounds : Obligations.NoticeExpiryAtRounds := by
  intro s due running timer run
  refine ⟨s.noticeExpiry, exec_of_occurs rfl running ((Timer.due_iff ..).mpr ⟨due, timer, run⟩), s.noticeExpiry_eq,
    fun shares => ?_, fun notPrecharge notEngaged => ?_⟩
  · obtain ⟨drp, bch, sre⟩ := State.noticeExpiry_starts_round shares
    have own : s.snapshot.own = _ := s.dlk.ownAsRead_eq
    refine ⟨drp, bch, s.snapshot, by rw [own], by rw [own], by rw [own], rfl, rfl, rfl, rfl, rfl, rfl, ?_⟩
    rw [sre, Snapshot.mode_eq]
    rfl
  · obtain ⟨sre, bch, drp⟩ := State.noticeExpiry_zeroes notPrecharge notEngaged
    have inactive := State.refreshChopper_inForce { s with sre := { s.sre with grant := 0, regen := 0, chopper := 0 } }
    rw [inForce_zero, Prod.mk.injEq] at inactive
    rw [sre, bch, drp]
    exact ⟨rfl, rfl, inactive.1, inactive.2, rfl⟩

/-! ## The reports to CFM (R66, R67, R147 to R149) -/

/-- CFM at SRE's report of a cause as active or cleared (R66, R67). -/
def Cfm.report (m : Cfm) (c : Cause) (active : Bool) : Cfm := if active then m.raise c else m.clear c

/-- A new CFM as one update (R163). -/
theorem State.withCfm_eq (s : State) (m : Cfm) : s.withCfm m = { s with
    cfm := m,
    dlk := { s.dlk with statusPending := s.dlk.statusPending || decide (m.level ≠ s.cfm.level) } } := by
  rw [State.withCfm, State.triggerStatusIf_eq]

/-- A report reaches CFM, and a change of the level is a STATUS trigger (R147, R149, R163). -/
theorem State.reportCause_eq (s : State) (c : Cause) (active : Bool) :
    s.reportCause c active = s.withCfm (s.cfm.report c active) := by
  cases active <;> rfl

/-- The sum of the FRESH entries' tallies makes a round LOSSY (R66). -/
theorem Round.lossy_eq (r : Round) (img : Image) : r.lossy img = decide (img.lossyThreshold ≤
    ((r.snapshot.peers.filter (fun e => decide (e.freshness = .fresh))).map CopyEntry.tally).sum) := rfl

/-- A reported voltage lies outside the window where it differs by more than the window (R67). -/
theorem CopyRecord.differs_eq (c : CopyRecord) (vAvg window : Nat) :
    c.differs vAvg window = decide (window < (((c.volts * 12 : Nat) : Int) - vAvg).natAbs) := by
  rw [CopyRecord.differs, ← Bool.decide_or, decide_eq_decide]
  omega

/-- At least two reported voltages of which most differ make a round VOLT_SUSPECT (R67). -/
theorem Round.voltSuspect_eq (r : Round) (img : Image) :
    let reported : List Nat := (r.snapshot.peers.filter (fun e =>
        decide (e.freshness = .fresh) && !e.contested)).filterMap (fun e => e.records.head?.map (fun c => c.volts * 12))
    let differing := reported.countP (fun v : Nat =>
      decide (img.voltWindow < ((v : Int) - r.snapshot.vAvg).natAbs))
    r.voltSuspect img = decide (2 ≤ reported.length ∧ reported.length < 2 * differing) := by
  intro reported differing
  have listed : r.snapshot.witnesses.map (fun c => c.volts * 12) = reported := by
    rw [Snapshot.witnesses, List.map_filterMap]
    rfl
  have length : r.snapshot.witnesses.length = reported.length := by rw [← listed, List.length_map]
  have count : r.snapshot.witnesses.countP (fun c => c.differs r.snapshot.vAvg img.voltWindow) = differing := by
    simp only [differing, ← listed, List.countP_map, CopyRecord.differs_eq]
    rfl
  rw [Round.voltSuspect, length, count, Bool.decide_and]

/-! ## The completion (R62 to R64, R68) -/

/-- The start tags hold where all three equal the live values (R62). -/
theorem State.tagsHold_iff (s : State) (tags : StartTags) : s.tagsHold tags = true ↔
    tags.sectionIndex = s.sectionIndex ∧ tags.sectionKnown = s.sectionKnown ∧ tags.level = s.cfm.level := by
  simp [State.tagsHold, and_assoc]

/-- The part after CFM has heard the first notice of a completion, then LOSSY and VOLT_SUSPECT (R68, R163). -/
def State.afterReports (s : State) (heard : Cfm) (lossy suspect : Bool) : State :=
  let first := heard.report .lossy lossy
  let second := first.report .voltSuspect suspect
  { s with
    cfm := second,
    dlk := { s.dlk with
      statusPending := (s.dlk.statusPending || decide (heard.level ≠ s.cfm.level) ||
        decide (first.level ≠ heard.level) || decide (second.level ≠ first.level)) } }

/-- What SRE holds after a publication (R63). -/
def State.publishedSre (s : State) (r : Round) : Sre :=
  { s.sre with
    round := none, grant := r.grant s.cfg, regen := r.regenLimit s.cfg, chopper := r.chopperDemand s.cfg,
    derated := decide (r.factor s.cfg < 256), published := s.sre.published + 1 }

/-- A round with unchanged tags is published, and the publication notice goes first (R62, R63, R68, R148). -/
theorem State.completeRound_of_holds {s : State} {r : Round} (holds : s.tagsHold r.tags = true) :
    let told : State := { s with sre := s.publishedSre r }
    s.completeRound r = State.afterReports { told with
      drp := (told.recompose false).drp, bch := told.refreshChopper.bch }
      (s.cfm.publication s.cfg.recoveryRounds) (r.lossy s.cfg) (r.voltSuspect s.cfg) := by
  intro told
  have publish : s.publish r = told.redraw false := rfl
  simp only [State.completeRound, if_pos holds, publish, State.redraw_eq, State.reportCause_eq, State.withCfm_eq,
    State.afterReports, told]

/-- A round with changed tags is void (R62, R64, R68). -/
theorem State.completeRound_of_not_holds {s : State} {r : Round} (changed : ¬s.tagsHold r.tags = true) :
    s.completeRound r = State.afterReports { s with
      sre := { s.sre with round := none, voided := s.sre.voided + 1 } }
      s.cfm (r.lossy s.cfg) (r.voltSuspect s.cfg) := by
  simp only [State.completeRound, if_neg changed, State.voidRound, State.reportCause_eq, State.withCfm_eq,
    State.afterReports, ne_eq, not_true_eq_false, decide_false, Bool.or_false]

/-- Settles O26: the round published or void by its tags, with the reports after it. -/
theorem roundCompletionPublishesOrVoids : Obligations.RoundCompletionPublishesOrVoids := by
  intro s r running flight holds tallies lossy reported differing suspect report moves
  have isLossy : r.lossy s.cfg = lossy := r.lossy_eq s.cfg
  have isSuspect : r.voltSuspect s.cfg = suspect := r.voltSuspect_eq s.cfg
  have completes : exec .roundCompletion s = .next (s.completeRound r).settle := by
    rw [exec_of_occurs (c := .roundCompletion) rfl running (by simp [occursAt, flight])]
    simp only [effectOf, State.roundEnds, flight]
  refine ⟨s.completeRound r, completes, ?_, fun tags => ?_, fun tags => ?_⟩
  · by_cases tags : s.tagsHold r.tags = true
    · rw [State.completeRound_of_holds tags]; rfl
    · rw [State.completeRound_of_not_holds tags]; rfl
  · rw [State.completeRound_of_holds ((s.tagsHold_iff _).mpr tags), isLossy, isSuspect]
    exact ⟨rfl, rfl, rfl, rfl, rfl, State.refreshChopper_inForce { s with sre := s.publishedSre r }⟩
  · rw [State.completeRound_of_not_holds (mt (s.tagsHold_iff _).mp tags), isLossy, isSuspect]
    exact ⟨rfl, rfl, rfl, rfl, rfl⟩

/-! ## What changes the published values and the round in flight (R44, R48, R62) -/

/-- A RESTART frame resets SRE where it is taken, and leaves it where it is refused or dropped (R43, R160). -/
theorem restart_sre (s : State) (raw : RawInputs) :
    (effectOf (.restart raw) s).sre = s.sre ∨ (effectOf (.restart raw) s).sre = .atReset := by
  refine State.examine_keeps (P := fun u => u.sre = s.sre ∨ u.sre = .atReset) (fun _ hu => hu) (.inl rfl)
    (fun _ _ => .inl (by simp)) (fun _ => ?_)
  unfold State.restartFrame
  split
  · exact .inr rfl
  · exact .inl (by simp)

/-- Everything that a command can do to SRE (R44, R48, R62). -/
theorem exec_sre {c : Instr} {s t : State} (hx : exec c s = .next t) :
    t.sre = s.sre ∨ (resets c = true ∧ t.sre = .atReset) ∨
    (c = .noticeTimerExpiry ∧ t.sre = s.noticeExpiry.sre) ∨
    (c = .roundCompletion ∧ ∃ r : Round, s.sre.round = some r ∧ t.sre = (s.completeRound r).sre) := by
  rcases exec_cases hx with rfl | reset | ⟨-, -, occurs, rfl⟩
  · exact .inl rfl
  · cases c <;> simp only [holdsReset, Bool.false_eq_true] at reset
    case powerOn => cases hx; exact .inr (.inl ⟨rfl, rfl⟩)
    case pinReset => cases hx; exact .inr (.inl ⟨rfl, rfl⟩)
    case resetEnd raw =>
      simp only [exec, execResetEnd] at hx
      split at hx <;> cases hx
      · exact .inr (.inl ⟨rfl, rfl⟩)
      · exact .inl rfl
  · have settled : (effectOf c s).settle.sre = (effectOf c s).sre := by simp
    rw [settled]
    cases touches : touchesSre c with
    | false => exact .inl (effectOf_sre touches)
    | true =>
      cases c <;> simp only [touchesSre, Bool.false_eq_true] at touches
      case noticeTimerExpiry => exact .inr (.inr (.inl ⟨rfl, rfl⟩))
      case roundCompletion =>
        obtain ⟨r, flight⟩ := Option.isSome_iff_exists.mp occurs
        refine .inr (.inr (.inr ⟨rfl, r, flight, ?_⟩))
        simp only [effectOf, State.roundEnds, flight]
      case restart raw =>
        rcases restart_sre s raw with refused | taken
        · exact .inl refused
        · exact .inr (.inl ⟨rfl, taken⟩)

/-- Settles O27: SRE is left alone, reset, at an expiry, or at a completion. -/
theorem publicationNeedsUnchangedTags : Obligations.PublicationNeedsUnchangedTags := by
  intro c s t hx
  rcases exec_sre hx with same | ⟨reset, sre⟩ | ⟨expiry, sre⟩ | ⟨completion, r, flight, sre⟩
  · rw [same]
    exact ⟨fun moved => absurd rfl moved, fun _ => .inl rfl⟩
  · rw [sre]
    exact ⟨fun _ => .inr ⟨.inr reset, rfl, rfl, rfl⟩, fun _ => .inr ⟨rfl, .inr reset⟩⟩
  · refine ⟨fun moved => ?_, fun other => absurd expiry other⟩
    rw [sre] at moved ⊢
    by_cases shares : s.psq.state = .precharge ∨ s.psq.state = .engaged
    · rw [(State.noticeExpiry_starts_round shares).2.2] at moved
      exact absurd rfl moved
    · obtain ⟨notPrecharge, notEngaged⟩ := not_or.mp shares
      rw [(State.noticeExpiry_zeroes notPrecharge notEngaged).1]
      exact .inr ⟨.inl expiry, rfl, rfl, rfl⟩
  · rw [sre]
    by_cases holds : s.tagsHold r.tags = true
    · obtain ⟨index, known, level⟩ := (s.tagsHold_iff _).mp holds
      rw [State.completeRound_of_holds holds]
      exact ⟨fun _ => .inl ⟨completion, r, flight, index, known, level, rfl, rfl, rfl⟩,
        fun _ => .inr ⟨rfl, .inl completion⟩⟩
    · rw [State.completeRound_of_not_holds holds]
      exact ⟨fun moved => absurd rfl moved, fun _ => .inr ⟨rfl, .inl completion⟩⟩

end Sys2Proof.Machine
end

section
/-! PROOFS. What every step can do: a reset, its end, or a command's effect with the transmitter's choice (R161, R166,
R170). -/

namespace Sys2Proof.Machine

/-- A command whose event occurs is neither a held reset nor its end. -/
theorem holdsReset_of_occurs {c : Instr} {s : State} (occurs : occursAt c s = true) : holdsReset c = false := by
  cases holds : holdsReset c with
  | false => rfl
  | true => cases c <;> simp [holdsReset, occursAt] at holds occurs

/-- Where its event does not occur, a command changes nothing (log entry 3). -/
theorem exec_of_not_occurs {c : Instr} {s : State} (h : holdsReset c = false) (ho : occursAt c s = false) :
    exec c s = .next s := by
  rw [exec_eq_event c s h, State.event_of_not ho]

/-- The part at the end of a held reset, with the raw levels that its filters take (R113, R167). -/
def State.atResetEnd (s : State) (raw : RawInputs) : State :=
  { State.heldInReset s.dlk.resetCause s.fresh s.pending with
    held := false, cfl := { Cfl.atReset with reading := true }, psq := .atReset raw (.start 0 125) }

/-- Everything that a command can answer, the resets written out. -/
theorem exec_answers {c : Instr} {s t : State} (hx : exec c s = .next t) :
    t = s ∨ (∃ cause, cause ≠ .restart ∧ t = .heldInReset cause s.fresh s.pending) ∨
    (s.held = true ∧ ∃ raw, t = s.atResetEnd raw) ∨
    (s.held = false ∧ occursAt c s = true ∧ t = (effectOf c s).settle) := by
  rcases exec_cases hx with same | resets | ⟨-, running, occurs, effect⟩
  · exact .inl same
  · cases c <;> simp only [holdsReset, Bool.false_eq_true] at resets
    case powerOn => cases hx; exact .inr (.inl ⟨_, by decide, rfl⟩)
    case pinReset dip => cases hx; exact .inr (.inl ⟨_, by cases dip <;> decide, rfl⟩)
    case resetEnd raw =>
      simp only [exec, execResetEnd] at hx
      split at hx <;> cases hx
      · next held => exact .inr (.inr (.inl ⟨held, raw, rfl⟩))
      · exact .inl rfl
  · exact .inr (.inr (.inr ⟨running, occurs, effect⟩))

/-- A condition is kept by every step where idle moments and the queue keep it, the two held resets and their end
bring it about, and every event keeps it through the transmitter's choice. -/
theorem kept_of_effects {P : State → Prop} (idle : ∀ s, P s → P s.idle)
    (queue : ∀ s q, P s → P { s with pending := q })
    (reset : ∀ cause fresh pending, cause ≠ .restart → P (.heldInReset cause fresh pending))
    (ends : ∀ s raw, P s → s.held = true → P (s.atResetEnd raw))
    (effects : ∀ c s, P s → s.held = false → occursAt c s = true → P (effectOf c s).settle) :
    KeptByEveryStep P := by
  refine kept_of_exec idle queue fun c s t h hx => ?_
  rcases exec_answers hx with rfl | ⟨cause, supervised, rfl⟩ | ⟨held, raw, rfl⟩ | ⟨running, occurs, rfl⟩
  · exact h
  · exact reset cause _ _ supervised
  · exact ends s raw h held
  · exact effects c s h running occurs

/-- A command leaves the time base, or resets the part, MSU with it (R166, R170). -/
theorem exec_tmb {c : Instr} {s t : State} (hx : exec c s = .next t) : t.tmb = s.tmb ∨ t.msu = .atReset := by
  rcases exec_answers hx with rfl | ⟨cause, -, rfl⟩ | ⟨-, raw, rfl⟩ | ⟨-, -, rfl⟩
  · exact .inl rfl
  · exact .inr rfl
  · exact .inr rfl
  · exact .inl (by simp)

end Sys2Proof.Machine
end

section
/-! PROOFS. Measurement: the sample rings and their averages, and the moments of a conversion pair (R71 to R80). -/

namespace Sys2Proof.Machine

/-! ## The rings and their averages (R75, R76) -/

/-- The sum of samples in a range lies in that range, once for each sample. -/
theorem sum_bounds {samples : List Int} {lo hi : Int} (range : ∀ x ∈ samples, lo ≤ x ∧ x ≤ hi) :
    lo * samples.length ≤ samples.sum ∧ samples.sum ≤ hi * samples.length := by
  have below := samples.card_nsmul_le_sum lo (fun x member => (range x member).1)
  have above := samples.sum_le_card_nsmul hi (fun x member => (range x member).2)
  rw [nsmul_eq_mul, mul_comm] at below above
  exact ⟨below, above⟩

/-- The floored mean of samples in a range lies in that range (R76). -/
theorem mean_bounds {samples : List Int} {lo hi : Int} (filled : samples ≠ [])
    (range : ∀ x ∈ samples, lo ≤ x ∧ x ≤ hi) :
    lo ≤ samples.sum / (samples.length : Int) ∧ samples.sum / (samples.length : Int) ≤ hi := by
  have count : (0 : Int) < samples.length := by simpa [List.length_pos_iff] using filled
  obtain ⟨below, above⟩ := sum_bounds range
  exact ⟨(Int.le_ediv_iff_mul_le count).mpr below, Int.ediv_le_of_le_mul count above⟩

namespace Ring.Sound

variable {r : Ring} {lo hi average sample : Int}

/-- A sample joins a sound ring as the last of the 16 kept, and the sum is theirs (R75). -/
theorem push_eq (h : r.Sound lo hi average) : r.push sample =
    { samples := (r.samples ++ [sample]).rtake 16, sum := ((r.samples ++ [sample]).rtake 16).sum } := by
  have count := h.count
  unfold Ring.push
  split
  · next room =>
    have all : (r.samples ++ [sample]).rtake 16 = r.samples ++ [sample] := by
      rw [List.rtake, List.length_append, List.length_singleton, Nat.sub_eq_zero_of_le (by omega), List.drop_zero]
    rw [all, h.sum, List.sum_append, List.sum_singleton]
  · next full =>
    have newest : (r.samples ++ [sample]).rtake 16 = r.samples.drop 1 ++ [sample] := by
      rw [List.rtake, List.length_append, List.length_singleton, show r.samples.length + 1 - 16 = 1 by omega,
        List.drop_append_of_le_length (by omega)]
    rw [newest, h.sum]
    cases held : r.samples with
    | nil => simp [held] at full
    | cons oldest rest => simp

/-- The samples kept lie in the range where the new one does (R75). -/
theorem range_push (h : r.Sound lo hi average) (inRange : lo ≤ sample ∧ sample ≤ hi) :
    ∀ x ∈ (r.samples ++ [sample]).rtake 16, lo ≤ x ∧ x ≤ hi := by
  intro x kept
  rcases List.mem_append.mp (List.mem_of_mem_drop kept) with old | new
  · exact h.range x old
  · rw [List.mem_singleton.mp new]; exact inRange

/-- At least the new sample is kept. -/
theorem kept_ne_nil (samples : List Int) (sample : Int) : (samples ++ [sample]).rtake 16 ≠ [] := by
  rw [ne_eq, ← List.length_eq_zero_iff, List.rtake, List.length_drop, List.length_append, List.length_singleton]
  omega

/-- A sample in the range keeps a ring sound, with the new average published from it (R75, R76). -/
theorem push (h : r.Sound lo hi average) (inRange : lo ≤ sample ∧ sample ≤ hi) :
    (r.push sample).Sound lo hi (r.push sample).average := by
  rw [h.push_eq]
  refine ⟨?_, rfl, h.range_push inRange, ?_⟩
  · rw [List.rtake, List.length_drop]; omega
  · rw [if_neg (kept_ne_nil _ _)]; rfl

/-- The average after a sample in the range lies in it (R76). -/
theorem average_push (h : r.Sound lo hi average) (inRange : lo ≤ sample ∧ sample ≤ hi) :
    lo ≤ (r.push sample).average ∧ (r.push sample).average ≤ hi := by
  rw [h.push_eq]
  exact mean_bounds (kept_ne_nil _ _) (h.range_push inRange)

end Ring.Sound

/-- A voltage code gives 0 to 2,999 volts (R73). -/
theorem voltsOfCode_le (code : BitVec 12) : voltsOfCode code ≤ 2999 := by
  have width := code.isLt
  unfold voltsOfCode
  omega

/-- A current code gives -400 to 399 DU (R74). -/
theorem currentOfCode_bounds (code : BitVec 12) : -400 ≤ currentOfCode code ∧ currentOfCode code ≤ 399 := by
  have width := code.isLt
  unfold currentOfCode
  omega

/-! ## What a completed conversion does (R71 to R80) -/

/-- The volts of a code, whole: both as a natural number and as a sample (R73). -/
theorem voltsOfCode_cast (code : BitVec 12) : ((voltsOfCode code : Nat) : Int) = (code.toNat : Int) * 3000 / 4096 := by
  simp [voltsOfCode]

/-- MSU after a voltage sample (R71, R75, R76, R80). -/
def Msu.voltageTaken (m : Msu) (img : Image) (now : Instant) (volts : Nat) : Msu :=
  { m with
    adc := .current now, voltage := m.voltage.push volts, vAvg := (m.voltage.push volts).average.toNat,
    collapse := collapseAfter img m.collapse (m.voltage.push volts).average.toNat }

/-- A voltage sample changes MSU, and DRP where the collapse state changes (R80, R98). -/
theorem State.takeVoltage_eq (s : State) (volts : Nat) : s.takeVoltage volts =
    let sampled : State := { s with msu := s.msu.voltageTaken s.cfg s.instant volts }
    if sampled.msu.collapse = s.msu.collapse then sampled else sampled.recompose false := rfl

/-- MSU after a voltage sample. -/
@[simp] theorem State.takeVoltage_msu (s : State) (volts : Nat) :
    (s.takeVoltage volts).msu = s.msu.voltageTaken s.cfg s.instant volts := by
  rw [State.takeVoltage_eq]
  dsimp only
  split
  · rfl
  · simp

/-- The rings and averages after a current sample (R75, R76). -/
theorem State.takeCurrent_rings (s : State) (current : Int) :
    (s.takeCurrent current).msu.voltage = s.msu.voltage ∧ (s.takeCurrent current).msu.vAvg = s.msu.vAvg ∧
    (s.takeCurrent current).msu.current = s.msu.current.push current ∧
    (s.takeCurrent current).msu.iAvg = (s.msu.current.push current).average := by
  simp only [State.takeCurrent, State.judgeRaised, State.judgeClear]
  repeat' split
  all_goals simp

/-! ## The rings stay sound (R73 to R76) -/

/-- A RESTART frame resets MSU where it is taken, and leaves it where it is refused or dropped (R70, R160). -/
theorem restart_msu (s : State) (raw : RawInputs) : (effectOf (.restart raw) s).msu = s.msu ∨
    (effectOf (.restart raw) s).msu = { Msu.atReset with runsFrom := some s.instant } := by
  refine State.examine_keeps
    (P := fun u => u.msu = s.msu ∨ u.msu = { Msu.atReset with runsFrom := some s.instant })
    (fun _ hu => hu) (.inl rfl) (fun _ _ => .inl (by simp)) (fun _ => ?_)
  unfold State.restartFrame
  split
  · exact .inr rfl
  · exact .inl (by simp)

namespace State.RingsSound

variable {s u : State}

/-- All that the law of the rings reads of MSU. -/
theorem congr (h : s.RingsSound) (voltage : u.msu.voltage = s.msu.voltage) (vAvg : u.msu.vAvg = s.msu.vAvg)
    (current : u.msu.current = s.msu.current) (iAvg : u.msu.iAvg = s.msu.iAvg) : u.RingsSound := by
  refine ⟨?_, ?_⟩
  · rw [voltage, vAvg]; exact h.voltage
  · rw [current, iAvg]; exact h.current

theorem of_msu (h : s.RingsSound) (msu : u.msu = s.msu) : u.RingsSound := by
  apply h.congr <;> rw [msu]

/-- Empty rings with their averages at 0 are sound (R70). -/
theorem of_atReset (voltage : u.msu.voltage = Msu.atReset.voltage) (vAvg : u.msu.vAvg = 0)
    (current : u.msu.current = Msu.atReset.current) (iAvg : u.msu.iAvg = 0) : u.RingsSound := by
  have empty (lo hi : Int) : Ring.Sound { samples := [], sum := 0 } lo hi 0 :=
    ⟨Nat.zero_le _, rfl, fun _ none => absurd none List.not_mem_nil, rfl⟩
  refine ⟨?_, ?_⟩
  · rw [voltage, vAvg]; exact empty 0 2999
  · rw [current, iAvg]; exact empty (-400) 399

/-- A voltage sample keeps the rings sound; no average is below 0 V (R73, R76). -/
theorem takeVoltage (h : s.RingsSound) (code : BitVec 12) : (s.takeVoltage (voltsOfCode code)).RingsSound := by
  have inRange : (0 : Int) ≤ voltsOfCode code ∧ (voltsOfCode code : Int) ≤ 2999 :=
    ⟨Int.natCast_nonneg _, Int.ofNat_le.mpr (voltsOfCode_le code)⟩
  refine ⟨?_, ?_⟩
  · rw [State.takeVoltage_msu]
    have pushed := h.voltage.push inRange
    rwa [← Int.toNat_of_nonneg (h.voltage.average_push inRange).1] at pushed
  · rw [State.takeVoltage_msu]
    exact h.current

/-- A current sample keeps the rings sound (R74, R76). -/
theorem takeCurrent (h : s.RingsSound) (code : BitVec 12) : (s.takeCurrent (currentOfCode code)).RingsSound := by
  obtain ⟨voltage, vAvg, current, iAvg⟩ := s.takeCurrent_rings (currentOfCode code)
  refine ⟨?_, ?_⟩
  · rw [voltage, vAvg]; exact h.voltage
  · rw [current, iAvg]; exact h.current.push (currentOfCode_bounds code)

theorem restart (h : s.RingsSound) (raw : RawInputs) : (effectOf (.restart raw) s).RingsSound := by
  rcases restart_msu s raw with refused | taken
  · exact h.of_msu refused
  · apply of_atReset <;> rw [taken] <;> rfl

end State.RingsSound

/-- Every command's effect keeps the rings sound. -/
theorem effectOf_ringsSound {c : Instr} {s : State} (h : s.RingsSound) : (effectOf c s).RingsSound := by
  cases touches : touchesMsu c with
  | false => exact h.of_msu (effectOf_msu touches)
  | true =>
    cases c <;> simp only [touchesMsu, Bool.false_eq_true] at touches
    case ready => apply h.congr <;> simp [effectOf]
    case conversionPairStart => exact h.congr rfl rfl rfl rfl
    case voltageConversionCompletion code => exact h.takeVoltage code
    case currentConversionCompletion code => exact h.takeCurrent code
    case restart raw => exact h.restart raw

/-- The rings and their averages stay sound (the third part of O60). -/
theorem ringsSound_kept : KeptByEveryStep State.RingsSound :=
  kept_of_effects (fun _ h => h.of_msu (by simp)) (fun _ _ h => h.of_msu rfl)
    (fun _ _ _ _ => .of_atReset rfl rfl rfl rfl) (fun _ _ _ _ => .of_atReset rfl rfl rfl rfl)
    (fun c _ h _ _ => (effectOf_ringsSound (c := c) h).of_msu (by simp))

/-! ## A pair within the millisecond of its tick (R71, R72) -/

/-- The crystal cycles between two moments of one millisecond (R166). -/
theorem toNat_instant_sub (tick : Tick) {first last : BitVec 13} (order : first.toNat ≤ last.toNat) :
    ((tick ++ last : Instant) - (tick ++ first : Instant)).toNat = last.toNat - first.toNat := by
  have early := Tmb.instant_toNat { tick := tick, phase := first }
  have late := Tmb.instant_toNat { tick := tick, phase := last }
  simp only [Tmb.instant] at early late
  rw [BitVec.toNat_sub_of_le (BitVec.le_def.mpr (by omega)), early, late]
  omega

/-- Before the last cycle of a millisecond the crystal advances within it (R166). -/
theorem Tmb.advance_of_lt {t : Tmb} (before : t.phase.toNat < 8191) :
    t.advance.tick = t.tick ∧ t.advance.phase.toNat = t.phase.toNat + 1 := by
  have notLast : t.phase ≠ 8191 := fun last => by simp [last] at before
  refine ⟨by simp only [Tmb.advance, if_neg notLast], ?_⟩
  simp only [Tmb.advance, BitVec.toNat_add]
  exact Nat.mod_eq_of_lt (by simp; omega)

/-- Where no event is due, the conversion in flight has not run out (R71). -/
theorem State.conversionRunsOut_of_no_event {s : State} (none : s.dueEvents = []) {since : Instant}
    (flight : s.msu.adc.since = some since) : (s.instant - since).toNat < 327 := by
  by_contra ran
  have out : s.conversionRunsOut = true := (s.conversionRunsOut_iff).mpr ⟨since, flight, Nat.not_lt.mp ran⟩
  have due (c : Instr) : c ∉ s.dueEvents := by rw [none]; exact List.not_mem_nil
  simp only [State.dueEvents, mem_filterMap_guard] at due
  cases adc : s.msu.adc with
  | idle => simp [adc, AdcState.since] at flight
  | voltage => exact due (.voltageConversionCompletion s.unreadCode) (by simp [adc, AdcState.isVoltage, out])
  | current => exact due (.currentConversionCompletion s.unreadCode) (by simp [adc, AdcState.isCurrent, out])

namespace State.PairsTimely

variable {s u : State}

/-- All that the law of a pair reads of a state. -/
theorem congr (h : s.PairsTimely) (adc : u.msu.adc = s.msu.adc) (tmb : u.tmb = s.tmb) : u.PairsTimely := by
  refine ⟨fun since flight => ?_, fun since flight => ?_⟩
  · rw [State.now, tmb]; exact h.voltage since (adc ▸ flight)
  · rw [State.now, tmb]; exact h.current since (adc ▸ flight)

/-- Without a conversion in flight the law holds at every moment. -/
theorem of_idle (idle : u.msu.adc = .idle) : u.PairsTimely :=
  ⟨fun _ flight => by simp [idle] at flight, fun _ flight => by simp [idle] at flight⟩

/-- While a conversion is in flight the millisecond is far from its end (R72). -/
theorem phase_le (h : s.PairsTimely) (busy : s.msu.adc ≠ .idle) : s.tmb.phase.toNat ≤ 654 := by
  cases adc : s.msu.adc with
  | idle => exact absurd adc busy
  | voltage since => have := (h.voltage since adc).2; omega
  | current since => obtain ⟨phase, -, early, -, late⟩ := h.current since adc; omega

/-- The next crystal cycle comes while a conversion in flight has not run out (R71, R72). -/
theorem advance (h : s.PairsTimely) (none : s.dueEvents = []) (adc : u.msu.adc = s.msu.adc)
    (tmb : u.tmb = s.tmb.advance) : u.PairsTimely := by
  by_cases busy : s.msu.adc = .idle
  · exact of_idle (adc.trans busy)
  · obtain ⟨tick, phase⟩ := Tmb.advance_of_lt (t := s.tmb) (by have := h.phase_le busy; omega)
    have now : u.now = s.now := by rw [State.now, tmb, tick]; rfl
    refine ⟨fun since flight => ?_, fun since flight => ?_⟩
    · rw [adc] at flight
      obtain ⟨began, -⟩ := h.voltage since flight
      have soon := State.conversionRunsOut_of_no_event none (since := since) (by simp [flight, AdcState.since])
      rw [began] at soon
      have cycles := toNat_instant_sub s.tmb.tick (first := 0#13) (last := s.tmb.phase) (Nat.zero_le _)
      refine ⟨now ▸ began, ?_⟩
      rw [tmb, phase]
      have zero : (0#13).toNat = 0 := rfl
      simp only [State.instant, Tmb.instant, State.now] at soon
      omega
    · rw [adc] at flight
      obtain ⟨start, began, first, order, -⟩ := h.current since flight
      have soon := State.conversionRunsOut_of_no_event none (since := since) (by simp [flight, AdcState.since])
      rw [began] at soon
      have cycles := toNat_instant_sub s.tmb.tick order
      refine ⟨start, now ▸ began, first, ?_⟩
      rw [tmb, phase]
      simp only [State.instant, Tmb.instant, State.now] at soon
      omega

theorem idle (h : s.PairsTimely) : s.idle.PairsTimely := by
  cases held : s.held with
  | true => simpa [State.idle, held] using h
  | false =>
    rcases State.idle_cases held with ⟨-, queued⟩ | ⟨none, cycle⟩
    · rw [queued]; exact h.congr rfl rfl
    · exact h.advance none (by simp) (by rw [cycle]; rfl)

/-- A tick starts a pair at its own instant (R71, R82). -/
theorem startsPair (starts : s.startsPair = true) :
    { s with msu := { s.msu with adc := .voltage s.instant, runsFrom := none } }.PairsTimely := by
  simp only [State.startsPair, Tmb.onTick, Bool.and_eq_true, beq_iff_eq] at starts
  obtain ⟨⟨⟨-, tick⟩, -⟩, -⟩ := starts
  refine ⟨fun since flight => ?_, fun since flight => by cases flight⟩
  cases flight
  exact ⟨by rw [State.instant, Tmb.instant, tick]; rfl, by simp [tick]⟩

/-- A voltage conversion's end begins the current conversion of its pair (R71). -/
theorem takeVoltage (h : s.PairsTimely) (voltage : s.msu.adc.isVoltage = true) (volts : Nat) :
    (s.takeVoltage volts).PairsTimely := by
  obtain ⟨start, flight⟩ := (AdcState.isVoltage_iff _).mp voltage
  have early := (h.voltage start flight).2
  have adc := s.takeVoltage_adc volts
  refine ⟨fun since other => (by rw [adc] at other; cases other), fun since same => ?_⟩
  rw [adc] at same
  cases same
  refine ⟨s.tmb.phase, ?_, early, ?_, ?_⟩ <;> simp [State.instant, Tmb.instant, State.now]

end State.PairsTimely

/-- Every command's effect keeps a pair within its millisecond. -/
theorem effectOf_pairsTimely {c : Instr} {s : State} (h : s.PairsTimely) (occurs : occursAt c s = true) :
    (effectOf c s).PairsTimely := by
  cases touches : touchesMsu c with
  | false => exact h.congr (by rw [effectOf_msu touches]) (effectOf_tmb c s)
  | true =>
    cases c <;> simp only [touchesMsu, Bool.false_eq_true] at touches
    case ready => exact h.congr (by simp [effectOf]) (effectOf_tmb _ s)
    case conversionPairStart => exact .startsPair occurs
    case voltageConversionCompletion => exact h.takeVoltage occurs _
    case currentConversionCompletion => exact .of_idle (s.takeCurrent_adc _)
    case restart raw =>
      rcases restart_msu s raw with refused | taken
      · exact h.congr (by rw [refused]) (effectOf_tmb _ s)
      · exact .of_idle (by rw [taken]; rfl)

/-- Each pair stays within the millisecond of its tick (the first part of O60). -/
theorem pairsTimely_kept : KeptByEveryStep State.PairsTimely :=
  kept_of_effects (fun _ h => h.idle) (fun _ _ h => h.congr rfl rfl) (fun _ _ _ _ => .of_idle rfl)
    (fun _ _ _ _ => .of_idle rfl)
    (fun _ _ h _ occurs => (effectOf_pairsTimely h occurs).congr (by simp) (by simp))

/-- A new tick finds the sequencer IDLE (R72, the second part of O60). -/
theorem adc_idle_at_new_tick {s t : State} (h : s.PairsTimely) (stepped : step s = .next t) (moved : t.now ≠ s.now) :
    t.msu.adc = .idle := by
  rcases step_cases stepped with ⟨-, rfl⟩ | ⟨c, rest, -, hx⟩
  · by_contra busy
    have adc : s.idle.msu.adc = s.msu.adc := by simp
    rw [adc] at busy
    have early := h.phase_le busy
    refine moved ?_
    cases held : s.held with
    | true => simp [State.idle, held]
    | false =>
      rcases State.idle_cases held with ⟨-, queued⟩ | ⟨-, cycle⟩
      · rw [queued]; rfl
      · rw [cycle]; exact (Tmb.advance_of_lt (t := s.tmb) (by omega)).1
  · rcases exec_tmb hx with same | reset
    · exact absurd (congrArg Tmb.tick same) moved
    · rw [reset]; rfl

end Sys2Proof.Machine
end

section
/-! PROOFS. Measurement: the commands of a conversion pair (R71 to R80, R82). -/

namespace Sys2Proof.Machine

/-! ## The voltage conversion (R71, R73, R75, R76, R80, R82) -/

/-- A pair starts at a tick from READY on that finds the sequencer IDLE, but for the instant of READY or of the RESTART
(R71, R82, R171). -/
theorem State.startsPair_iff (s : State) : s.startsPair = true ↔
    s.cfl.loader = .ready ∧ s.tmb.phase = 0 ∧ s.msu.adc = .idle ∧ s.msu.runsFrom ≠ some s.instant := by
  simp [State.startsPair, State.isReady, Tmb.onTick, and_assoc]

/-- The table of the collapse state, from each of its two values (R80). -/
theorem collapseAfter_iff (img : Image) (before : Bool) (vAvg : Nat) :
    (before = false → (collapseAfter img before vAvg = true ↔ vAvg < img.vCollapse)) ∧
    (before = true → (collapseAfter img before vAvg = false ↔ img.vFloor ≤ vAvg)) := by
  cases before <;> simp [collapseAfter]

/-- Settles O28: the pair start by its conditions, and the completion by the ring that its sample joins. -/
theorem voltageConversions : Obligations.VoltageConversions := by
  refine fun s running => ⟨fun ready tick idle => ⟨fun later => ?_, fun same => ?_⟩,
    fun code since flight sound => ?_⟩
  · exact exec_of_occurs rfl running (s.startsPair_iff.mpr ⟨ready, tick, idle, later⟩)
  · have waits : s.startsPair = false := by
      rw [Bool.eq_false_iff, ne_eq, State.startsPair_iff]
      exact fun ⟨_, _, _, later⟩ => later same
    exact exec_of_not_occurs rfl waits
  · intro volts samples
    have sample : ((voltsOfCode code : Nat) : Int) = volts := voltsOfCode_cast code
    have inRange : (0 : Int) ≤ voltsOfCode code ∧ (voltsOfCode code : Int) ≤ 2999 :=
      ⟨Int.natCast_nonneg _, Int.ofNat_le.mpr (voltsOfCode_le code)⟩
    have pushed := sound.push_eq (sample := voltsOfCode code)
    obtain ⟨low, high⟩ := sound.average_push inRange
    rw [sample] at pushed low high
    set average := (s.msu.voltage.push volts).average with hAverage
    obtain ⟨clear, collapsed⟩ := collapseAfter_iff s.cfg s.msu.collapse average.toNat
    refine ⟨average.toNat, collapseAfter s.cfg s.msu.collapse average.toNat, ?_, by omega, clear, collapsed, ?_⟩
    · rw [Int.toNat_of_nonneg low, hAverage, pushed]; rfl
    · intro u
      rw [exec_of_occurs (c := .voltageConversionCompletion code) rfl running
        ((AdcState.isVoltage_iff _).mpr ⟨since, flight⟩)]
      simp only [effectOf, State.takeVoltage_eq, Msu.voltageTaken, sample, ← hAverage]
      rw [pushed]

/-! ## The current conversion (R74 to R78) -/

/-- MSU after a current sample, before the judgement (R74 to R76). -/
def Msu.currentTaken (m : Msu) (current : Int) : Msu :=
  { m with adc := .idle, current := m.current.push current, iAvg := (m.current.push current).average }

/-- A current sample is judged by the overdraw state that it finds (R77, R78). -/
theorem State.takeCurrent_eq (s : State) (current : Int) : s.takeCurrent current =
    let sampled : State := { s with msu := s.msu.currentTaken current }
    if s.msu.overdraw then sampled.judgeRaised else sampled.judgeClear := rfl

/-- The three outcomes in CLEAR (R77). -/
theorem State.judgeClear_cases (s : State) :
    (s.msu.iAvg ≤ s.overdrawBound → s.judgeClear = { s with msu := { s.msu with overSince := none } }) ∧
    (s.overdrawBound < s.msu.iAvg → elapsed s.now (s.msu.overSince.getD s.now) < 200 →
      s.judgeClear = { s with msu := { s.msu with overSince := some (s.msu.overSince.getD s.now) } }) ∧
    (s.overdrawBound < s.msu.iAvg → 200 ≤ elapsed s.now (s.msu.overSince.getD s.now) →
      s.judgeClear =
        { s with msu := { s.msu with overdraw := true, overSince := none, underSince := none } }.raiseCause
          .overdraw) := by
  refine ⟨fun within => ?_, fun above short => ?_, fun above long => ?_⟩
  · rw [State.judgeClear, if_neg (not_lt.mpr within)]
  · simp only [State.judgeClear, if_pos above, if_neg (not_le.mpr short)]
  · simp only [State.judgeClear, if_pos above, if_pos long]

/-- The three outcomes in RAISED (R78). -/
theorem State.judgeRaised_cases (s : State) :
    (s.overdrawBound < s.msu.iAvg → s.judgeRaised = { s with msu := { s.msu with underSince := none } }) ∧
    (s.msu.iAvg ≤ s.overdrawBound → elapsed s.now (s.msu.underSince.getD s.now) < 1000 →
      s.judgeRaised = { s with msu := { s.msu with underSince := some (s.msu.underSince.getD s.now) } }) ∧
    (s.msu.iAvg ≤ s.overdrawBound → 1000 ≤ elapsed s.now (s.msu.underSince.getD s.now) →
      s.judgeRaised =
        { s with msu := { s.msu with overdraw := false, underSince := none } }.clearCause .overdraw) := by
  refine ⟨fun above => ?_, fun within short => ?_, fun within long => ?_⟩
  · rw [State.judgeRaised, if_neg (not_le.mpr above)]
  · simp only [State.judgeRaised, if_pos within, if_neg (not_le.mpr short)]
  · simp only [State.judgeRaised, if_pos within, if_pos long]

/-- The draw of a code, rounded toward minus infinity (R74). -/
theorem currentOfCode_floor (code : BitVec 12) :
    2048 * currentOfCode code ≤ ((code.toNat : Int) - 2048) * 400 ∧
      ((code.toNat : Int) - 2048) * 400 < 2048 * (currentOfCode code + 1) := by
  unfold currentOfCode
  omega

/-- Settles O29: the sample joins its ring, and the average is judged in the state it finds. -/
theorem currentConversions : Obligations.CurrentConversions := by
  intro s code since running flight sound
  obtain ⟨floor, ceiling⟩ := currentOfCode_floor code
  refine ⟨currentOfCode code, floor, ceiling, ?_⟩
  intro samples average bound sampled overRun underRun after
  have taken : s.msu.currentTaken (currentOfCode code) = sampled := by
    rw [Msu.currentTaken, sound.push_eq]; rfl
  have completes (u : State) (judged : s.takeCurrent (currentOfCode code) = u) : after u := by
    have occurs : occursAt (.currentConversionCompletion code) s = true :=
      (AdcState.isCurrent_iff _).mpr ⟨since, flight⟩
    rw [← judged]
    exact exec_of_occurs rfl running occurs
  have limit : ({ s with msu := sampled } : State).overdrawBound = bound := by
    simp [State.overdrawBound, bound, State.cfg]
  refine ⟨fun clear => ?_, fun raised => ?_⟩
  · obtain ⟨under, short, long⟩ := State.judgeClear_cases { s with msu := sampled }
    have judged : s.takeCurrent (currentOfCode code) = ({ s with msu := sampled } : State).judgeClear := by
      rw [State.takeCurrent_eq, taken, clear]; rfl
    rw [limit] at under short long
    refine ⟨fun within => completes _ (judged.trans (under within)),
      fun above run => completes _ (judged.trans (short above run)),
      fun above run => completes _ (judged.trans ((long above run).trans ?_))⟩
    rw [State.raiseCause_eq]
  · obtain ⟨excess, short, long⟩ := State.judgeRaised_cases { s with msu := sampled }
    have judged : s.takeCurrent (currentOfCode code) = ({ s with msu := sampled } : State).judgeRaised := by
      rw [State.takeCurrent_eq, taken, raised]; rfl
    rw [limit] at excess short long
    refine ⟨fun above => completes _ (judged.trans (excess above)),
      fun within run => completes _ (judged.trans (short within run)),
      fun within run => completes _ (judged.trans ((long within run).trans ?_))⟩
    rw [State.clearCause_eq]
    rfl

end Sys2Proof.Machine
end

section
/-! PROOFS. The part rests until READY and in HALTED: every step keeps it at rest (R168, R169). -/

namespace Sys2Proof.Machine

/-- All that the rest of the blocks asks of DLK. -/
def Dlk.restView (d : Dlk) : OwnRecord × (Bool × Bool) × (Timer × Timer × Timer) × Option LimitFrame :=
  (d.own, (d.silence, d.stow), (d.silenceTimer, d.stowTimer, d.limitTimer), d.limitBuffer)

/-- The commands whose event can occur while the blocks rest: those of the loader, the filters, the ring and the line. -/
def occursAtRest : Instr → Bool
  | .spiReadCompletion _ | .loaderRetryExpiry | .ready | .contactLoss | .contactReturn | .downLimit | .filterEdge _ _
  | .ringAdvance | .demand | .pantoRaise | .pantoLower | .pantoBadValue | .gap | .query | .restart _ | .frameDropped
  | .transmitterFree | .symbolBoundary _ | .byteReceived _ _ => true
  | _ => false

namespace State.AtRest

variable {s : State}

/-- While the blocks rest no timer, round, conversion or notice of theirs brings an event about (R169). -/
theorem occursAtRest_of_occurs (h : s.AtRest) (unready : s.isReady = false) {c : Instr}
    (occurs : occursAt c s = true) : occursAtRest c = true := by
  cases stands : occursAtRest c with
  | true => rfl
  | false =>
    exfalso
    cases c <;> simp [occursAtRest, occursAt, unready, h.ntx, h.ptb, h.sre, h.msu, h.drp, h.bch, h.sgm, h.pilotEnd,
      h.stowed, h.linkTimers, Timer.due, Ntx.atReset, Ptb.atReset, Sre.atReset, Msu.atReset, Drp.atReset, Bch.atReset,
      Sgm.atReset, State.takesDecision, State.startsPair, State.timerExpires, State.countdownOut, State.stowExpires,
      AdcState.isVoltage, AdcState.isCurrent, PsqState.closed] at stands occurs

/-- A change of anything else in DLK leaves the part at rest. -/
theorem withDlk (h : s.AtRest) {d : Dlk} (view : d.restView = s.dlk.restView) : { s with dlk := d }.AtRest := by
  simp only [Dlk.restView, Prod.mk.injEq] at view
  obtain ⟨own, ⟨silence, stow⟩, ⟨silenceTimer, stowTimer, limitTimer⟩, limitBuffer⟩ := view
  exact { h with
    ownRecord := own.trans h.ownRecord
    silent := by rw [silence, stow]; exact h.silent
    linkTimers := by rw [silenceTimer, stowTimer, limitTimer]; exact h.linkTimers
    limitBuffer := limitBuffer.trans h.limitBuffer }

theorem refuse (h : s.AtRest) (ty : Byte) (r : RefuseReason) : (s.refuse ty r).AtRest := by
  unfold State.refuse
  split <;> exact h.withDlk rfl

/-- The transmitter's choice leaves the part at rest: it empties tallies that are at 0 (R15, R161). -/
theorem settle (h : s.AtRest) : s.settle.AtRest := by
  rcases State.settle_cases s with ⟨-, e⟩ | ⟨-, f, limit, -⟩ | ⟨-, -, ty, r, rest, -, e⟩ | ⟨-, -, -, -, e⟩ |
    ⟨-, -, -, -, e⟩
  · rw [e]; exact h
  · rw [h.limitBuffer] at limit; cases limit
  · rw [e]; exact h.withDlk rfl
  · rw [e]
    have status : { s with dlk := (s.composedStatus.startSending (.status s.statusFrame)).dlk }.AtRest := h.withDlk rfl
    exact { status with ptb := by simp [composedStatus, startSending, h.ptb, Ptb.atReset] }
  · rw [e]; exact h

/-! ### The loader (R167 to R169) -/

/-- CFL's entry to HALTED drives the arm down or not at all (R118, R169). -/
theorem halt (h : s.AtRest) (reason : HaltReason) : (s.halt reason).AtRest :=
  { h with
    notRaised := by simp only [State.halt, State.triggerStatus]; split <;> simp
    loadingIdle := fun loading => by cases loading }

theorem judgeBlock (h : s.AtRest) (block : List Byte) : (s.judgeBlock block).AtRest := by
  have read : { s with cfl := { s.cfl with reading := false } }.AtRest := { h with }
  unfold State.judgeBlock
  dsimp only
  split
  · split
    · exact { h with }
    · exact read.halt _
  · split
    · exact read.halt _
    · exact { h with }

/-! ### The filters and the ring (R116, R118, R128) -/

/-- An accepted contact level meets no notice, no sequencer state and no gap (R20, R119 to R125, R143). -/
theorem contactEdge_eq (h : s.AtRest) (level : Bool) :
    s.contactEdge level = { s with psq := { s.psq with contact := s.psq.contact.sample level } } := by
  have off : s.ntx.state = .off := by rw [h.ntx]; rfl
  have disarmed : s.sgm.phase = .disarmed := by rw [h.sgm]; rfl
  simp only [State.contactEdge]
  split
  · split
    · simp [State.contactReturned, State.psqContactReturned, h.stowed, disarmed]
    · simp [State.contactLost, State.abortNotice, State.psqContactLost, State.withSgm, Sgm.contactLost, off, h.stowed,
        disarmed]
  · rfl

theorem contactEdge (h : s.AtRest) (level : Bool) : (s.contactEdge level).AtRest := by
  rw [h.contactEdge_eq]
  exact { h with }

/-- An accepted down-limit at most removes the lower command of HALTED (R118). -/
theorem downLimitReached (h : s.AtRest) : s.downLimitReached.AtRest := by
  unfold State.downLimitReached
  split
  · exact { h with
      notRaised := by simp
      loadingIdle := fun _ => rfl }
  · simp only [h.stowed]
    exact h

theorem downLimitEdge (h : s.AtRest) (level : Bool) : (s.downLimitEdge level).AtRest := by
  have sampled : { s with psq := { s.psq with downLimit := s.psq.downLimit.sample level } }.AtRest := { h with }
  simp only [State.downLimitEdge]
  split
  · exact sampled.downLimitReached
  · exact sampled

theorem filterEdge (h : s.AtRest) (input : FilterId) (level : Bool) : (s.filterEdge input level).AtRest := by
  cases input with
  | contact => exact h.contactEdge level
  | upLimit => exact { h with }
  | downLimit => exact h.downLimitEdge level

/-- An empty ring advances to itself, and nothing is compared (R128, R129). -/
theorem ringAdvances (h : s.AtRest) : s.ringAdvances.AtRest := by
  have open' : s.psq.state.closed = false := by rw [h.stowed]; rfl
  obtain ⟨rawRun, buckets, arcWarn⟩ := h.arcMonitor
  simp only [State.ringAdvances, open', Bool.false_eq_true, if_false]
  exact { h with arcMonitor := ⟨rawRun, by simp [Psq.advanceRing, buckets, List.replicate], arcWarn⟩ }

/-! ### The line (R8, R156, R157) -/

/-- Before READY and in HALTED every frame but a QUERY is dropped or refused (R157). -/
theorem examine (h : s.AtRest) (unready : s.isReady = false) {row : FrameRow} (ends : s.frameEnds row = true)
    (other : row ≠ .query) (act : List Byte → State → State) : (s.examine act).AtRest := by
  rcases State.examine_cases s act with ⟨-, e⟩ | ⟨ty, payload, frame, ⟨r, -, e⟩ | ⟨taken, -, -⟩⟩
  · rw [e]; exact h.withDlk rfl
  · rw [e]; exact (h.refuse ty r).withDlk rfl
  · obtain ⟨-, -, isRow⟩ := (State.frameEnds_iff ..).mp ends
    rcases taken with ready | query
    · rw [unready] at ready; cases ready
    · exact absurd (isRow.symm.trans ((RxBuffer.row_eq_iff s.dlk.rx .query).mpr ⟨_, frame, query⟩)) other

theorem query (h : s.AtRest) : (s.examine fun _ u => u.triggerStatus).AtRest :=
  State.examine_keeps (fun _ hu => hu.withDlk rfl) (h.withDlk rfl) h.refuse (fun _ => h.withDlk rfl)

theorem takeBoundary (h : s.AtRest) (ch : Channel) : (s.takeBoundary ch).AtRest :=
  { h with
    contexts := fun other => by
      have rests := h.contexts other
      simp only [State.takeBoundary, State.withContext, Fin.getElem_fin, Vector.getElem_set] at rests ⊢
      split
      · next same => simpa [same] using rests
      · exact rests }

/-- Every block at its reset values is at rest, whatever CFL and the filters hold (R169, R170). -/
theorem of_heldInReset (cause : ResetCause) (fresh : Nat) (pending : List Instr) (held : Bool) (cfl : Cfl)
    (raw : RawInputs) (ring : Timer) :
    State.AtRest { State.heldInReset cause fresh pending with held := held, cfl := cfl, psq := .atReset raw ring } where
  startAt := rfl
  ntx := rfl
  ptb := rfl
  sre := rfl
  cfm := rfl
  msu := rfl
  drp := rfl
  lrg := rfl
  bch := rfl
  sgm := rfl
  pilotEnd := rfl
  contexts ch := by simp [Crx.atReset, RxContext.atReset]
  stowed := rfl
  powerStage := ⟨rfl, rfl, rfl⟩
  notRaised := by simp [Psq.atReset]
  loadingIdle _ := rfl
  arcMonitor := ⟨rfl, rfl, rfl⟩
  sequencer := ⟨rfl, rfl⟩
  ownRecord := rfl
  silent := ⟨rfl, rfl⟩
  linkTimers := ⟨rfl, rfl, rfl⟩
  limitBuffer := rfl

theorem heldInReset (cause : ResetCause) (fresh : Nat) (pending : List Instr) :
    (State.heldInReset cause fresh pending).AtRest :=
  of_heldInReset cause fresh pending true .atReset { contact := false, upLimit := false, downLimit := false } none

theorem atResetEnd (s : State) (raw : RawInputs) : (s.atResetEnd raw).AtRest := of_heldInReset ..

/-- No event but READY's ends the rest (R169, R171). -/
theorem of_effect (h : s.AtRest) (unready : s.isReady = false) {c : Instr} (occurs : occursAt c s = true)
    (other : c ≠ .ready) : (effectOf c s).AtRest := by
  have possible := h.occursAtRest_of_occurs unready occurs
  cases c <;> simp only [occursAtRest, Bool.false_eq_true] at possible
  case ready => exact absurd rfl other
  case spiReadCompletion block => exact h.judgeBlock block
  case loaderRetryExpiry => exact { h with }
  case contactLoss => exact h.contactEdge false
  case contactReturn => exact h.contactEdge true
  case downLimit => exact h.downLimitEdge true
  case filterEdge input level => exact h.filterEdge input level
  case ringAdvance => exact h.ringAdvances
  case query => exact h.query
  case demand | pantoRaise | pantoLower | gap | restart => exact h.examine unready occurs (by decide) _
  case pantoBadValue => exact h.examine unready occurs (by decide) fun _ u => u.refuse typePanto .badValue
  case frameDropped => exact h.examine unready occurs (by decide) fun _ u => u
  case transmitterFree => exact h.withDlk rfl
  case symbolBoundary change => exact h.takeBoundary change.channel
  case byteReceived => exact h.withDlk rfl

end State.AtRest

/-- READY ends with a reset only (R167, R169). -/
theorem effectOf_stays_ready {c : Instr} {s : State} (ready : s.cfl.loader = .ready)
    (occurs : occursAt c s = true) : (effectOf c s).cfl.loader = .ready := by
  cases touches : touchesCfl c with
  | false => rw [effectOf_cfl touches]; exact ready
  | true =>
    exfalso
    cases c <;> simp [touchesCfl, occursAt, ready] at touches occurs

/-- READY's effect on CFL: the loader is READY, with the image that it has (R168). -/
theorem State.enterReady_cfl (s : State) :
    s.enterReady.cfl = { s.cfl with loader := .ready, readyAt := none } := by
  simp only [State.enterReady]
  split <;> simp

/-- Every command's effect keeps the part at rest unless the loader is READY. -/
theorem effectOf_quietUnlessReady {c : Instr} {s : State} (h : s.QuietUnlessReady) (occurs : occursAt c s = true) :
    (effectOf c s).QuietUnlessReady := by
  intro after
  by_cases ready : s.cfl.loader = .ready
  · exact absurd (effectOf_stays_ready ready occurs) after
  · refine (h ready).of_effect (by simpa [State.isReady] using ready) occurs fun isReady => ?_
    subst isReady
    exact after (congrArg Cfl.loader s.enterReady_cfl)

/-- A part at rest lets time pass at rest: no notice is keyed that would run the divider (R3). -/
theorem State.AtRest.idle {s : State} (h : s.AtRest) : s.idle.AtRest := by
  have silent : s.runDivider = s := by rw [State.runDivider, if_neg (by simp [h.ntx, Ntx.atReset])]
  unfold State.idle
  split
  · exact h
  · split
    · rw [silent]; exact { h with }
    · exact { h with }

/-- An idle moment keeps the part at rest unless the loader is READY. -/
theorem quietUnlessReady_idle {s : State} (h : s.QuietUnlessReady) : s.idle.QuietUnlessReady :=
  fun unready => (h (by simpa using unready)).idle

/-- A command's effect and the transmitter's choice keep the part at rest unless the loader is READY. -/
theorem quietUnlessReady_settle {c : Instr} {s : State} (h : s.QuietUnlessReady) (occurs : occursAt c s = true) :
    (effectOf c s).settle.QuietUnlessReady :=
  fun unready => (effectOf_quietUnlessReady h occurs (by simpa using unready)).settle

/-- Every step keeps the part at rest unless the loader is READY (R169). -/
theorem quietUnlessReady_kept : KeptByEveryStep State.QuietUnlessReady :=
  kept_of_effects (fun _ h => quietUnlessReady_idle h) (fun _ _ h unready => { h unready with })
    (fun cause fresh pending _ _ => .heldInReset cause fresh pending) (fun s raw _ _ _ => .atResetEnd s raw)
    (fun _ _ h _ occurs => quietUnlessReady_settle h occurs)

end Sys2Proof.Machine
end

section
/-! PROOFS. The bounce ring and DLK's buffers: which commands change them, and their bounds (R128, R155, R156, R159,
R161). -/

namespace Sys2Proof.Machine

/-! ## The bounce ring (R127, R128) -/

/-- Of all entries only that to ENGAGED changes the bounce ring: it clears it (R127). -/
@[simp] theorem Psq.enter_buckets (p : Psq) (st : PsqState) (img : Image) (now : Tick) :
    (p.enter st img now).buckets = if st = .engaged then List.replicate 8 0 else p.buckets := rfl

@[simp] theorem State.enterCutting_buckets (s : State) : s.enterCutting.psq.buckets = s.psq.buckets := by
  simp only [State.enterCutting]; split <;> simp

@[simp] theorem State.enterRetracting_buckets (s : State) : s.enterRetracting.psq.buckets = s.psq.buckets := by
  simp only [State.enterRetracting]; split <;> simp

@[simp] theorem State.psqContactLost_buckets (s : State) : s.psqContactLost.psq.buckets = s.psq.buckets := by
  simp only [State.psqContactLost]; (repeat' split) <;> simp

@[simp] theorem State.contactLost_buckets (s : State) : s.contactLost.psq.buckets = s.psq.buckets := by
  simp [State.contactLost]

@[simp] theorem State.contactReturned_buckets (s : State) : s.contactReturned.psq.buckets = s.psq.buckets := by
  simp only [State.contactReturned, State.psqContactReturned]; (repeat' split) <;> simp

@[simp] theorem State.downLimitReached_buckets (s : State) : s.downLimitReached.psq.buckets = s.psq.buckets := by
  simp only [State.downLimitReached]; (repeat' split) <;> simp

@[simp] theorem State.filterEdge_buckets (s : State) (input : FilterId) (level : Bool) :
    (s.filterEdge input level).psq.buckets = s.psq.buckets := by
  cases input <;> simp only [State.filterEdge, State.contactEdge, State.upLimitEdge, State.downLimitEdge] <;>
    (repeat' split) <;> simp

@[simp] theorem State.compareArc_buckets (s : State) : s.compareArc.psq.buckets = s.psq.buckets := by
  simp only [State.compareArc]; (repeat' split) <;> simp

@[simp] theorem State.rampStep_buckets (s : State) : s.rampStep.psq.buckets = s.psq.buckets := by
  simp only [State.rampStep, State.handZero]; split <;> simp

@[simp] theorem State.raiseFrame_buckets (s : State) : s.raiseFrame.psq.buckets = s.psq.buckets := by
  simp only [State.raiseFrame]; split <;> simp

@[simp] theorem State.lowerFrame_buckets (s : State) : s.lowerFrame.psq.buckets = s.psq.buckets := by
  simp only [State.lowerFrame, State.lowerTaken]; (repeat' split) <;> simp

@[simp] theorem State.standStow_buckets (s : State) : s.standStow.psq.buckets = s.psq.buckets := by
  simp only [State.standStow]; split <;> simp

@[simp] theorem State.judgeBlock_buckets (s : State) (block : List Byte) :
    (s.judgeBlock block).psq.buckets = s.psq.buckets := by
  simp only [State.judgeBlock, State.halt]; (repeat' split) <;> simp

@[simp] theorem State.enterReady_buckets (s : State) : s.enterReady.psq.buckets = s.psq.buckets := by
  simp only [State.enterReady]; split <;> simp

/-- The commands whose effect may change the bounce ring. -/
def touchesBuckets : Instr → Bool
  | .contactStrobe _ | .prechargeExpiry | .ringAdvance | .restart _ => true
  | _ => false

/-- Every other command leaves the bounce ring as it was. -/
theorem effectOf_buckets {c : Instr} {s : State} (h : touchesBuckets c = false) :
    (effectOf c s).psq.buckets = s.psq.buckets := by
  cases touches : touchesPsq c with
  | false => rw [effectOf_psq touches]
  | true =>
    cases c <;> simp only [touchesBuckets, touchesPsq, Bool.true_eq_false, Bool.false_eq_true] at h touches
    case contactLoss => exact s.filterEdge_buckets .contact false
    case contactReturn => exact s.filterEdge_buckets .contact true
    case downLimit => exact s.filterEdge_buckets .downLimit true
    case pantoRaise | pantoLower =>
      exact State.examine_keeps (P := fun u => u.psq.buckets = s.psq.buckets) (fun _ hu => hu) rfl (by simp) (by simp)
    all_goals simp [effectOf, State.raiseTimedOut, State.reacquireTimedOut, State.retractTimedOut]

/-- Eight empty buckets. -/
theorem State.ArcRingSound.of_empty {u : State} (empty : u.psq.buckets = List.replicate 8 0) : u.ArcRingSound := by
  rw [State.ArcRingSound, empty]
  decide

/-- The bounce ring is all that its law reads. -/
theorem State.ArcRingSound.congr {s u : State} (h : s.ArcRingSound) (buckets : u.psq.buckets = s.psq.buckets) :
    u.ArcRingSound := by
  rw [State.ArcRingSound, buckets]
  exact h

/-- A contact sample raises at most the current bucket, up to 255 (R127). -/
theorem State.ArcRingSound.contactSample {s : State} (h : s.ArcRingSound) (contact : Bool) (bounceMax : Nat) :
    { s with psq := s.psq.contactSample contact bounceMax }.ArcRingSound := by
  unfold Psq.contactSample
  split
  · dsimp only
    split
    · refine ⟨by simpa using h.1, fun b member => ?_⟩
      obtain ⟨i, inside, rfl⟩ := List.mem_iff_getElem.mp member
      simp only [List.getElem_modify]
      split
      · exact Nat.min_le_left ..
      · exact h.2 _ (List.getElem_mem _)
    · exact h
  · exact h

/-- The ring advances by one empty bucket (R128). -/
theorem State.ArcRingSound.ringAdvances {s : State} (h : s.ArcRingSound) : s.ringAdvances.ArcRingSound := by
  have compared (u : State) (buckets : u.psq.buckets = s.psq.buckets) : (u.withPsq u.psq.advanceRing).ArcRingSound := by
    refine ⟨by simp [Psq.advanceRing, buckets, h.1], fun b member => ?_⟩
    simp only [State.withPsq_psq, Psq.advanceRing, buckets, List.mem_append, List.mem_singleton] at member
    rcases member with old | rfl
    · exact h.2 b (List.mem_of_mem_drop old)
    · exact Nat.zero_le _
  unfold State.ringAdvances
  dsimp only
  split
  · exact compared _ (by simp)
  · exact compared _ rfl

/-- Every command's effect keeps the bounce ring sound. -/
theorem effectOf_arcRingSound {c : Instr} {s : State} (h : s.ArcRingSound) : (effectOf c s).ArcRingSound := by
  cases touches : touchesBuckets c with
  | false => exact h.congr (effectOf_buckets touches)
  | true =>
    cases c <;> simp only [touchesBuckets, Bool.false_eq_true] at touches
    case contactStrobe contact => exact h.contactSample contact _
    case ringAdvance => exact h.ringAdvances
    case prechargeExpiry =>
      simp only [effectOf, State.prechargeDone]
      split
      · exact h.congr (by simp)
      · exact .of_empty (by simp)
    case restart raw =>
      refine State.examine_keeps (fun _ hu => hu.congr rfl) (h.congr rfl) (fun _ _ => h.congr (by simp)) (fun _ => ?_)
      unfold State.restartFrame
      split
      · exact .of_empty rfl
      · exact h.congr (by simp)

/-- The bounce ring stays sound (the fourth part of O60). -/
theorem arcRingSound_kept : KeptByEveryStep State.ArcRingSound :=
  kept_of_effects (fun _ h => h.congr (by simp)) (fun _ _ h => h.congr rfl) (fun _ _ _ _ => .of_empty rfl)
    (fun _ _ _ _ => .of_empty rfl) (fun c _ h _ _ => (effectOf_arcRingSound (c := c) h).congr (by simp))

end Sys2Proof.Machine
end

section
/-! PROOFS. DLK's own items: which commands change them, and their bounds (R155, R156, R158, R159, R161). -/

namespace Sys2Proof.Machine

/-! ## What the blocks' requests leave of DLK (R163, R164) -/

/-- DLK without what the blocks' requests, the LIMIT timer and the transmitter change: its sticky faults, STATUS pending,
LIMIT's timer and buffer, and the frame being sent are put to fixed values. -/
def Dlk.core (d : Dlk) : Dlk :=
  { d with sticky := .empty, limitTimer := none, limitBuffer := none, statusPending := false, sending := none }

@[simp] theorem State.setSticky_core (s : State) (f : StickyFault) : (s.setSticky f).dlk.core = s.dlk.core := rfl
@[simp] theorem State.triggerStatus_core (s : State) : s.triggerStatus.dlk.core = s.dlk.core := rfl
@[simp] theorem State.triggerStatusIf_core (s : State) (b : Bool) : (s.triggerStatusIf b).dlk.core = s.dlk.core := by
  rw [State.triggerStatusIf_dlk]; rfl

@[simp] theorem State.withCfm_core (s : State) (m : Cfm) : (s.withCfm m).dlk.core = s.dlk.core := by
  simp only [State.withCfm, State.triggerStatusIf_core]

@[simp] theorem State.raiseCause_core (s : State) (c : Cause) : (s.raiseCause c).dlk.core = s.dlk.core := by
  simp only [State.raiseCause, State.withCfm_core]

@[simp] theorem State.clearCause_core (s : State) (c : Cause) : (s.clearCause c).dlk.core = s.dlk.core := by
  simp only [State.clearCause, State.withCfm_core]

@[simp] theorem State.reportCause_core (s : State) (c : Cause) (active : Bool) :
    (s.reportCause c active).dlk.core = s.dlk.core := by
  simp only [State.reportCause]; split <;> simp

/-! ### Notices and rounds (R9 to R23, R44, R62) -/

@[simp] theorem State.withNtx_core (s : State) (n : Ntx) : (s.withNtx n).dlk.core = s.dlk.core := by
  simp only [State.withNtx, State.triggerStatusIf_core]

@[simp] theorem State.enterIdle_core (s : State) : s.enterIdle.dlk.core = s.dlk.core := by
  simp only [State.enterIdle, State.withNtx_core]

@[simp] theorem State.enterMuted_core (s : State) (raised : Bool) : (s.enterMuted raised).dlk.core = s.dlk.core := by
  simp only [State.enterMuted, State.withNtx_core]; split <;> simp

@[simp] theorem State.completeNotice_core (s : State) : s.completeNotice.dlk.core = s.dlk.core := by
  simp only [State.completeNotice]; (repeat' split) <;> simp

@[simp] theorem State.abortNotice_core (s : State) : s.abortNotice.dlk.core = s.dlk.core := by
  simp only [State.abortNotice]; (repeat' split) <;> simp

@[simp] theorem State.ownDelivery_core (s : State) (n : Notice) : (s.ownDelivery n).dlk.core = s.dlk.core := by
  simp only [State.ownDelivery]; (repeat' split) <;> simp

@[simp] theorem State.peerDelivery_core (s : State) (ch : Channel) (n : Notice) :
    (s.peerDelivery ch n).dlk.core = s.dlk.core := by
  simp only [State.peerDelivery]; split <;> simp

@[simp] theorem State.checkRecord_core (s : State) (ch : Channel) (bits : List Bool) :
    (s.checkRecord ch bits).dlk.core = s.dlk.core := by
  simp only [State.checkRecord]; (repeat' split) <;> simp

@[simp] theorem State.decideSymbol_core (s : State) (ch : Channel) (d : Symbol) :
    (s.decideSymbol ch d).dlk.core = s.dlk.core := by
  simp only [State.decideSymbol]; (repeat' split) <;> simp

@[simp] theorem State.noticeExpiry_core (s : State) : s.noticeExpiry.dlk.core = s.dlk.core := by
  rw [State.noticeExpiry_eq]; rfl

@[simp] theorem State.roundEnds_core (s : State) : s.roundEnds.dlk.core = s.dlk.core := by
  simp only [State.roundEnds, State.completeRound]; (repeat' split) <;> simp

/-! ### The sequencer and the gap (R114 to R129, R134 to R143) -/

@[simp] theorem State.enterPsq_core (s : State) (st : PsqState) : (s.enterPsq st).dlk.core = s.dlk.core := by
  rw [State.enterPsq_dlk]; rfl

@[simp] theorem State.enterCutting_core (s : State) : s.enterCutting.dlk.core = s.dlk.core := by
  simp only [State.enterCutting]; split <;> simp only [State.enterPsq_core]

@[simp] theorem State.enterRetracting_core (s : State) : s.enterRetracting.dlk.core = s.dlk.core := by
  simp only [State.enterRetracting]; split <;> simp only [State.enterPsq_core]

@[simp] theorem State.psqContactLost_core (s : State) : s.psqContactLost.dlk.core = s.dlk.core := by
  simp only [State.psqContactLost]; (repeat' split) <;> simp only [State.enterPsq_core, State.setSticky_core]

@[simp] theorem State.contactLost_core (s : State) : s.contactLost.dlk.core = s.dlk.core := by
  simp [State.contactLost]

@[simp] theorem State.contactReturned_core (s : State) : s.contactReturned.dlk.core = s.dlk.core := by
  simp only [State.contactReturned, State.psqContactReturned]
  (repeat' split) <;> simp only [State.disarmGap_frame, State.enterPsq_core, State.setSticky_core]

@[simp] theorem State.downLimitReached_core (s : State) : s.downLimitReached.dlk.core = s.dlk.core := by
  simp only [State.downLimitReached]; (repeat' split) <;> simp only [State.enterPsq_core]

@[simp] theorem State.filterEdge_core (s : State) (input : FilterId) (level : Bool) :
    (s.filterEdge input level).dlk.core = s.dlk.core := by
  cases input <;> simp only [State.filterEdge, State.contactEdge, State.upLimitEdge, State.downLimitEdge] <;>
    (repeat' split) <;> simp

@[simp] theorem State.compareArc_core (s : State) : s.compareArc.dlk.core = s.dlk.core := by
  simp only [State.compareArc]; (repeat' split) <;> simp

@[simp] theorem State.ringAdvances_core (s : State) : s.ringAdvances.dlk.core = s.dlk.core := by
  simp only [State.ringAdvances]; split <;> simp

@[simp] theorem State.rampStep_core (s : State) : s.rampStep.dlk.core = s.dlk.core := by
  simp only [State.rampStep, State.handZero]
  split
  · exact (State.enterPsq_core ..).trans (by simp)
  · simp

@[simp] theorem State.triggerIfSectionMoved_core (s before : State) :
    (s.triggerIfSectionMoved before).dlk.core = s.dlk.core := by
  simp only [State.triggerIfSectionMoved, State.triggerStatusIf_core]

@[simp] theorem State.changeSection_core (s : State) (p : PilotCode) : (s.changeSection p).dlk.core = s.dlk.core := by
  simp only [State.changeSection]; split <;> simp

@[simp] theorem State.windowEnds_core (s : State) (result : Option PilotCode) :
    (s.windowEnds result).dlk.core = s.dlk.core := by
  simp only [State.windowEnds, State.windowCode, State.establish, State.pilotReturned, State.windowNone]
  (repeat' split) <;> simp

/-! ### Measurement, the loader and READY (R77, R78, R168 to R171) -/

@[simp] theorem State.takeCurrent_core (s : State) (current : Int) : (s.takeCurrent current).dlk.core = s.dlk.core := by
  simp only [State.takeCurrent, State.judgeRaised, State.judgeClear]; (repeat' split) <;> simp

@[simp] theorem State.judgeBlock_core (s : State) (block : List Byte) : (s.judgeBlock block).dlk.core = s.dlk.core := by
  simp only [State.judgeBlock, State.halt]; (repeat' split) <;> simp

@[simp] theorem State.startTimers_core (s : State) : s.startTimers.dlk.core = s.dlk.core := rfl

@[simp] theorem State.enterReady_core (s : State) : s.enterReady.dlk.core = s.dlk.core := by
  simp only [State.enterReady]; split <;> simp

/-- The commands whose effect may change the core of DLK: frames, bytes and the two link timers. -/
def touchesLink : Instr → Bool
  | .demand | .pantoRaise | .pantoLower | .pantoBadValue | .gap | .query | .restart _ | .frameDropped
  | .silenceTimerExpiry | .stowTimerExpiry | .byteReceived _ _ => true
  | _ => false

/-- Every other command leaves the core of DLK as it was. -/
theorem effectOf_core {c : Instr} {s : State} (h : touchesLink c = false) : (effectOf c s).dlk.core = s.dlk.core := by
  cases c <;> simp only [touchesLink, Bool.true_eq_false] at h
  case contactLoss => exact s.filterEdge_core .contact false
  case contactReturn => exact s.filterEdge_core .contact true
  case downLimit => exact s.filterEdge_core .downLimit true
  case prechargeExpiry =>
    simp only [effectOf, State.prechargeDone]
    split <;> simp only [State.enterPsq_core, State.setSticky_core]
  case reacquireExpiry => exact (s.setSticky .dropoutTimeout).enterPsq_core .discharge
  case coastExpiry => exact s.enterPsq_core .discharge
  case retractTimeout => exact (s.setSticky .stuckUp).enterPsq_core .stuck
  case limitTimerExpiry | transmitterFree => rfl
  all_goals simp [effectOf, State.raiseTimedOut, State.endRejoin, State.falseGap]

/-- DLK after a DEMAND taken (R158). -/
theorem State.takeDemand_dlk (s : State) (cls : TruckClass) (demand offer : Nat) :
    (s.takeDemand cls demand offer).dlk = { s.dlk with
      own := { cls := cls, demand := min demand s.cfg.rated, offer := min offer s.cfg.rated }
      silence := false
      stow := false
      silenceTimer := .start s.now s.cfg.silenceTime
      stowTimer := .start s.now s.cfg.stowTime } := by
  simp only [State.takeDemand]
  split <;> simp

/-! ## What a command can do to DLK's core (R155 to R160) -/

/-- What a frame end can leave of DLK, up to the core, before the buffer is emptied (R157 to R160). -/
inductive State.FrameLeaves (s : State) : Dlk → Prop
  | passed : s.FrameLeaves s.dlk
  | dropped : s.FrameLeaves s.dropFrame.dlk
  | refused (ty : Byte) (r : RefuseReason) : s.FrameLeaves (s.refuse ty r).dlk
  | demand (cls : TruckClass) (demand offer : Nat) : s.FrameLeaves (s.takeDemand cls demand offer).dlk
  | restarted : s.FrameLeaves (.atReset .restart)

/-- What a command's effect can leave of DLK, up to the core (R155 to R160). -/
inductive State.EffectLeaves (s : State) : Dlk → Prop
  | same : s.EffectLeaves s.dlk
  | byte (byte : Byte) (moment : ByteMoment) :
      s.EffectLeaves { s.dlk with rx := s.dlk.rx.take byte s.instant moment }
  | frame {d : Dlk} (left : s.FrameLeaves d) : s.EffectLeaves { d with rx := .empty }
  | silence : s.EffectLeaves { s.dlk with silence := true, silenceTimer := none }
  | stow (expires : s.stowExpires = true) : s.EffectLeaves { s.dlk with stow := true, stowTimer := none }

@[simp] theorem State.lowerTaken_core (s : State) : s.lowerTaken.dlk.core = s.dlk.core := by
  unfold State.lowerTaken
  split <;> simp only [State.enterRetracting_core, State.enterCutting_core, State.enterPsq_core]

/-- A frame end leaves DLK dropped, refused, or as the frame taken leaves it, with the buffer emptied (R156, R157). -/
theorem State.examine_leaves {s : State} {act : List Byte → State → State}
    (taken : ∀ payload, ∃ d, s.FrameLeaves d ∧ (act payload s).dlk.core = d.core) :
    ∃ d, s.EffectLeaves d ∧ (s.examine act).dlk.core = d.core := by
  rcases s.examine_cases act with ⟨-, e⟩ | ⟨ty, payload, -, ⟨r, -, e⟩ | ⟨-, -, e⟩⟩
  · exact ⟨_, .frame .dropped, by rw [e]; rfl⟩
  · exact ⟨_, .frame (.refused ty r), by rw [e]; rfl⟩
  · obtain ⟨d, left, core⟩ := taken payload
    refine ⟨_, .frame left, ?_⟩
    have emptied : { (act payload s).dlk.core with rx := .empty } = { d.core with rx := .empty } := by rw [core]
    rw [e]
    exact emptied

/-- Everything that a command's effect can do to the core of DLK. -/
theorem effectOf_leaves {c : Instr} {s : State} (occurs : occursAt c s = true) :
    ∃ d, s.EffectLeaves d ∧ (effectOf c s).dlk.core = d.core := by
  cases touches : touchesLink c with
  | false => exact ⟨_, .same, effectOf_core touches⟩
  | true =>
    cases c <;> simp only [touchesLink, Bool.false_eq_true] at touches
    case demand =>
      refine State.examine_leaves fun payload => ?_
      unfold State.demandFrame
      split
      · exact ⟨_, .refused .., rfl⟩
      · exact ⟨_, .demand .., rfl⟩
    case pantoRaise =>
      refine State.examine_leaves fun _ => ?_
      unfold State.raiseFrame
      split
      · exact ⟨_, .passed, State.enterPsq_core ..⟩
      · exact ⟨_, .passed, rfl⟩
      · exact ⟨_, .refused .., rfl⟩
    case pantoLower =>
      refine State.examine_leaves fun _ => ?_
      unfold State.lowerFrame
      split
      · exact ⟨_, .passed, State.lowerTaken_core s⟩
      · exact ⟨_, .passed, rfl⟩
      · exact ⟨_, .refused .., rfl⟩
    case pantoBadValue => exact State.examine_leaves fun _ => ⟨_, .refused .., rfl⟩
    case gap => exact State.examine_leaves fun _ => ⟨_, .passed, by simp⟩
    case query => exact State.examine_leaves fun _ => ⟨_, .passed, rfl⟩
    case restart raw =>
      refine State.examine_leaves fun _ => ?_
      unfold State.restartFrame
      split
      · exact ⟨_, .restarted, rfl⟩
      · exact ⟨_, .refused .., rfl⟩
    case frameDropped => exact State.examine_leaves fun _ => ⟨_, .passed, rfl⟩
    case silenceTimerExpiry => exact ⟨_, .silence, by simp [effectOf, State.beginSilence]⟩
    case stowTimerExpiry =>
      refine ⟨_, .stow occurs, ?_⟩
      simp only [effectOf, State.standStow]
      split <;> simp
    case byteReceived byte moment => exact ⟨_, .byte byte moment, rfl⟩

/-! ## DLK's buffers and counts (R155, R156, R159, R161) -/

/-- DLK's buffers and counts in their ranges, and the stow condition after silence: what the law of the link asks of DLK
within an event, before the transmitter's choice (R155, R156, R159, R161). -/
structure Dlk.Bounded (d : Dlk) : Prop where
  receive : d.rx.bytes.length ≤ 16
  refusals : d.refusals.length ≤ 4
  dropped : d.dropped ≤ 255
  stowed : d.stow = true → d.silence = true
  silenceFirst : d.stowTimer ≠ none → d.silence = true ∨ d.silenceTimer ≠ none

namespace Dlk.Bounded

variable {d e : Dlk} {s : State}

/-- The bounds read the core alone. -/
theorem congr (h : d.Bounded) (core : e.core = d.core) : e.Bounded := by
  have same : d.core.Bounded := ⟨h.receive, h.refusals, h.dropped, h.stowed, h.silenceFirst⟩
  rw [← core] at same
  exact ⟨same.receive, same.refusals, same.dropped, same.stowed, same.silenceFirst⟩

theorem of_atReset (cause : ResetCause) : (Dlk.atReset cause).Bounded where
  receive := Nat.zero_le _
  refusals := Nat.zero_le _
  dropped := Nat.zero_le _
  stowed _ := rfl
  silenceFirst running := absurd rfl running

/-- A byte joins a buffer of fewer than 16 (R156). -/
theorem take (h : d.Bounded) (byte : Byte) (now : Instant) (moment : ByteMoment) :
    { d with rx := d.rx.take byte now moment }.Bounded := by
  refine { h with receive := ?_ }
  cases moment with
  | begins => exact h.receive
  | ends framingError =>
    have held := h.receive
    simp only [RxBuffer.take_ends, RxBuffer.push_eq]
    split
    · rw [List.length_append, List.length_singleton]; omega
    · exact held

/-- A refusal joins a queue of fewer than 4, or is counted (R161). -/
theorem refuse (h : s.dlk.Bounded) (ty : Byte) (r : RefuseReason) : (s.refuse ty r).dlk.Bounded := by
  unfold State.refuse
  split
  · exact { h with refusals := by simpa using by omega }
  · exact { h with dropped := Nat.min_le_left .. }

/-- A DEMAND ends silence and stow, and starts both timers (R158). -/
theorem takeDemand (h : s.dlk.Bounded) (cls : TruckClass) (demand offer : Nat) :
    (s.takeDemand cls demand offer).dlk.Bounded := by
  rw [State.takeDemand_dlk]
  exact { h with
    stowed := fun stands => by cases stands
    silenceFirst := fun _ => .inr (by simp [Timer.start]) }

theorem frameLeaves (h : s.dlk.Bounded) (left : s.FrameLeaves d) : d.Bounded := by
  cases left with
  | passed => exact h
  | dropped => exact { h with dropped := Nat.min_le_left .. }
  | refused ty r => exact h.refuse ty r
  | demand cls demand offer => exact h.takeDemand cls demand offer
  | restarted => exact .of_atReset .restart

/-- No effect brings DLK out of its bounds; the stow condition comes to stand after silence (R159). -/
theorem effectLeaves (h : s.dlk.Bounded) (left : s.EffectLeaves d) : d.Bounded := by
  cases left with
  | same => exact h
  | byte byte moment => exact h.take byte _ moment
  | frame left => exact { h.frameLeaves left with receive := Nat.zero_le _ }
  | silence =>
    exact { h with
      stowed := fun _ => rfl
      silenceFirst := fun _ => .inl rfl }
  | stow expires =>
    exact { h with
      stowed := fun _ => ((State.stowExpires_iff s).mp expires).1
      silenceFirst := fun running => absurd rfl running }

/-- The transmitter's choice only takes from DLK's buffers and counts (R161). -/
theorem settle (h : s.dlk.Bounded) : s.settle.dlk.Bounded := by
  rcases State.settle_cases s with ⟨-, e⟩ | ⟨-, f, -, e⟩ | ⟨-, -, ty, r, rest, queue, e⟩ | ⟨-, -, -, -, e⟩ |
    ⟨-, -, -, -, e⟩ <;> rw [e]
  · exact h
  · exact h.congr rfl
  · have shorter := h.refusals
    rw [queue, List.length_cons] at shorter
    exact { h with refusals := Nat.le_of_succ_le shorter }
  · exact { h with dropped := Nat.zero_le _ }
  · exact h

end Dlk.Bounded

/-- Every command's effect keeps DLK's buffers and counts in their ranges. -/
theorem effectOf_dlkBounded {c : Instr} {s : State} (h : s.dlk.Bounded) (occurs : occursAt c s = true) :
    (effectOf c s).dlk.Bounded := by
  obtain ⟨d, left, core⟩ := effectOf_leaves occurs
  exact (h.effectLeaves left).congr core

/-- A transmitter that is IDLE after its choice has found nothing to send (R161). -/
theorem State.settle_served (s : State) (idle : s.settle.dlk.sending = none) :
    s.settle.dlk.limitBuffer = none ∧ s.settle.dlk.refusals = [] ∧ s.settle.dlk.statusPending = false := by
  rcases State.settle_cases s with ⟨busy, e⟩ | ⟨-, f, -, e⟩ | ⟨-, -, ty, r, rest, -, e⟩ | ⟨-, -, -, -, e⟩ |
    ⟨-, limit, refusals, status, e⟩ <;> rw [e] at idle ⊢
  · rw [idle] at busy; cases busy
  · cases idle
  · cases idle
  · cases idle
  · exact ⟨limit, refusals, status⟩

namespace State.LinkSound

variable {s u : State}

theorem bounded (h : s.LinkSound) : s.dlk.Bounded := ⟨h.receive, h.refusals, h.dropped, h.stowed, h.silenceFirst⟩

/-- The law of the link from its parts: the bounds, the IDLE transmitter, and the cause of a held reset. -/
theorem of_bounded (h : u.dlk.Bounded)
    (served : u.dlk.sending = none → u.dlk.limitBuffer = none ∧ u.dlk.refusals = [] ∧ u.dlk.statusPending = false)
    (cause : u.held = true → u.dlk.resetCause ≠ .restart) : u.LinkSound :=
  ⟨h.receive, h.refusals, h.dropped, served, cause, h.stowed, h.silenceFirst⟩

/-- All that the law of the link reads of a state. -/
theorem congr (h : s.LinkSound) (held : u.held = s.held) (dlk : u.dlk = s.dlk) : u.LinkSound := by
  refine of_bounded ?_ ?_ ?_
  · rw [dlk]; exact h.bounded
  · rw [dlk]; exact h.served
  · rw [held, dlk]; exact h.cause

/-- DLK after a reset that a supervisor held, which leaves no STATUS pending (R155, R170). -/
theorem of_atReset {cause : ResetCause} (dlk : u.dlk = .atReset cause) (supervised : cause ≠ .restart) :
    u.LinkSound := by
  refine of_bounded ?_ (fun _ => ?_) (fun _ => ?_) <;> rw [dlk]
  · exact .of_atReset cause
  · exact ⟨rfl, rfl, by simp [Dlk.atReset, supervised]⟩
  · exact supervised

end State.LinkSound

/-- DLK stays sound (the fifth part of O60). -/
theorem linkSound_kept : KeptByEveryStep State.LinkSound :=
  kept_of_effects (fun _ h => h.congr (by simp) (by simp)) (fun _ _ h => h.congr rfl rfl)
    (fun _ _ _ supervised => .of_atReset rfl supervised) (fun _ _ h held => .of_atReset rfl (h.cause held))
    (fun c s h running occurs => .of_bounded (effectOf_dlkBounded h.bounded occurs).settle (State.settle_served _)
      (fun held => by simp [running] at held))

end Sys2Proof.Machine
end

section
/-! PROOFS. The published values within Rt, and the buffers of every block together (R43, R63, R158). -/

namespace Sys2Proof.Machine

/-! ## The published values and the own record (R43, R45, R63, R158) -/

/-- An own record within Rt (R158). -/
def OwnRecord.Within (o : OwnRecord) (rated : Nat) : Prop := o.demand ≤ rated ∧ o.offer ≤ rated

/-- Published values within Rt, and a round in flight whose own record is (R43). -/
structure Sre.Within (e : Sre) (rated : Nat) : Prop where
  grant : e.grant ≤ rated
  offer : e.regen + e.chopper ≤ rated
  round : ∀ r : Round, e.round = some r → r.snapshot.own.Within rated

theorem Sre.within_atReset (rated : Nat) : Sre.atReset.Within rated :=
  ⟨Nat.zero_le _, Nat.zero_le _, fun _ none => by cases none⟩

theorem OwnRecord.within_parked (rated : Nat) : OwnRecord.Within { cls := .parked, demand := 0, offer := 0 } rated :=
  ⟨Nat.zero_le _, Nat.zero_le _⟩

/-- Silence at most puts 0 for the demand and the offer that a round reads (R45, R158). -/
theorem Dlk.ownAsRead_within {d : Dlk} {rated : Nat} (h : d.own.Within rated) : d.ownAsRead.Within rated := by
  unfold Dlk.ownAsRead
  split
  · exact ⟨Nat.zero_le _, Nat.zero_le _⟩
  · exact h

/-- A round with its own record within Rt publishes values within Rt: the grant is within the share and so within the
demand, and the regen limit and the chopper demand share the offer (R56, R61). -/
theorem Round.publishes_within {r : Round} {rated : Nat} (h : r.snapshot.own.Within rated) (img : Image) :
    r.grant img ≤ rated ∧ r.regenLimit img + r.chopperDemand img ≤ rated := by
  refine ⟨(grantOf_le (deratingFactor_le ..)).trans ((r.share_le_demand img).trans h.1), ?_⟩
  cases regenerates : r.snapshot.self.regenerates with
  | false =>
    obtain ⟨regen, chopper⟩ := Round.regen_of_not_regenerates (img := img) regenerates
    rw [regen, chopper]
    exact Nat.zero_le _
  | true =>
    rw [Round.regen_add_chopper regenerates]
    exact h.2

/-- An expiry of the notice timer starts a round from the own record, or sets the published values to 0 (R44). -/
theorem State.noticeExpiry_within {s : State} {rated : Nat} (sre : s.sre.Within rated) (own : s.dlk.own.Within rated) :
    s.noticeExpiry.sre.Within rated := by
  by_cases shares : s.psq.state = .precharge ∨ s.psq.state = .engaged
  · rw [(State.noticeExpiry_starts_round shares).2.2]
    refine ⟨sre.grant, sre.offer, fun r flight => ?_⟩
    cases flight
    exact Dlk.ownAsRead_within own
  · obtain ⟨notPrecharge, notEngaged⟩ := not_or.mp shares
    rw [(State.noticeExpiry_zeroes notPrecharge notEngaged).1]
    exact ⟨Nat.zero_le _, Nat.zero_le _, sre.round⟩

/-- A completion publishes the round's values, or voids the round (R63, R64). -/
theorem State.completeRound_within {s : State} {r : Round} {rated : Nat} (sre : s.sre.Within rated)
    (flight : s.sre.round = some r) : (s.completeRound r).sre.Within rated := by
  obtain ⟨grant, offer⟩ := Round.publishes_within (sre.round r flight) s.cfg
  by_cases holds : s.tagsHold r.tags = true
  · rw [State.completeRound_of_holds holds]
    exact ⟨grant, offer, fun _ none => by cases none⟩
  · rw [State.completeRound_of_not_holds holds]
    exact ⟨sre.grant, sre.offer, fun _ none => by cases none⟩

/-- Every command keeps the published values within a rated draw that the own record keeps to. -/
theorem exec_sre_within {c : Instr} {s t : State} {rated : Nat} (hx : exec c s = .next t)
    (sre : s.sre.Within rated) (own : s.dlk.own.Within rated) : t.sre.Within rated := by
  rcases exec_sre hx with same | ⟨-, reset⟩ | ⟨-, expiry⟩ | ⟨-, r, flight, completion⟩
  · rw [same]; exact sre
  · rw [reset]; exact Sre.within_atReset rated
  · rw [expiry]; exact State.noticeExpiry_within sre own
  · rw [completion]; exact State.completeRound_within sre flight

/-- Every command's effect keeps the own record within Rt: a DEMAND is clamped, and a RESTART parks (R155, R158). -/
theorem effectOf_own_within {c : Instr} {s : State} (own : s.dlk.own.Within s.cfg.rated)
    (occurs : occursAt c s = true) : (effectOf c s).dlk.own.Within s.cfg.rated := by
  have ends {d : Dlk} (left : s.FrameLeaves d) : d.own.Within s.cfg.rated := by
    cases left with
    | passed => exact own
    | dropped => exact own
    | refused ty r => unfold State.refuse; split <;> exact own
    | demand => rw [State.takeDemand_dlk]; exact ⟨Nat.min_le_right .., Nat.min_le_right ..⟩
    | restarted => exact OwnRecord.within_parked _
  obtain ⟨d, left, core⟩ := effectOf_leaves occurs
  have same : (effectOf c s).dlk.core.own = d.core.own := by rw [core]
  have kept : d.own.Within s.cfg.rated := by
    cases left with
    | frame left => exact (ends left :)
    | same | byte | silence | stow => exact own
  exact (congrArg (OwnRecord.Within · s.cfg.rated) same).mpr kept

/-- The configuration changes only where a block is loaded, which is in LOADING (R167, R168). -/
theorem effectOf_cfg {c : Instr} {s : State} (occurs : occursAt c s = true) :
    (effectOf c s).cfg = s.cfg ∨ (s.cfl.loader = .loading ∧ c ≠ .ready) := by
  cases touches : touchesCfl c with
  | false => exact .inl (by rw [State.cfg, effectOf_cfl touches]; rfl)
  | true =>
    cases c <;> simp only [touchesCfl, Bool.false_eq_true] at touches <;>
      simp only [occursAt, Bool.and_eq_true, beq_iff_eq] at occurs
    case spiReadCompletion => exact .inr ⟨occurs.1.1, by simp⟩
    case loaderRetryExpiry => exact .inl rfl
    case ready => exact .inl (congrArg (fun cfl => cfl.image.getD .blank) s.enterReady_cfl)

namespace State.PublishedSound

variable {s u : State}

/-- The law of the published values from its parts. -/
theorem of_within (sre : u.sre.Within u.cfg.rated) (own : u.dlk.own.Within u.cfg.rated) (quiet : u.QuietUnlessReady) :
    u.PublishedSound :=
  ⟨sre.grant, sre.offer, own, sre.round, quiet⟩

theorem sre_within (h : s.PublishedSound) : s.sre.Within s.cfg.rated := ⟨h.grant, h.offer, h.round⟩

/-- A part at rest publishes nothing, whatever its image (R43, R169). -/
theorem of_atRest (rest : u.AtRest) : u.PublishedSound := by
  refine of_within ?_ ?_ (fun _ => rest)
  · rw [rest.sre]; exact Sre.within_atReset _
  · rw [rest.ownRecord]; exact OwnRecord.within_parked _

end State.PublishedSound

/-- The published values stay within Rt (the last part of O60). -/
theorem publishedSound_kept : KeptByEveryStep State.PublishedSound := by
  refine kept_of_effects (fun s h => ?_) (fun s q h => ?_)
    (fun cause fresh pending _ => .of_atRest (.heldInReset cause fresh pending))
    (fun s raw _ _ => .of_atRest (.atResetEnd s raw)) (fun c s h running occurs => ?_)
  · have same : s.idle.cfg = s.cfg := by simp
    refine .of_within ?_ ?_ (quietUnlessReady_idle h.quiet)
    · rw [same, show s.idle.sre = s.sre by simp]; exact h.sre_within
    · rw [same, show s.idle.dlk = s.dlk by simp]; exact h.own
  · exact .of_within h.sre_within h.own (fun unready => { h.quiet unready with })
  · have quiet : (effectOf c s).settle.QuietUnlessReady := quietUnlessReady_settle h.quiet occurs
    rcases effectOf_cfg occurs with same | ⟨loading, other⟩
    · have answers : exec c s = .next (effectOf c s).settle :=
        exec_of_occurs (holdsReset_of_occurs occurs) running occurs
      have cfg : (effectOf c s).settle.cfg = s.cfg := by simp [same]
      refine .of_within ?_ ?_ quiet
      · rw [cfg]; exact exec_sre_within answers h.sre_within h.own
      · rw [cfg, show (effectOf c s).settle.dlk.own = (effectOf c s).dlk.own by simp]
        exact effectOf_own_within h.own occurs
    · have unready : s.cfl.loader ≠ .ready := by simp [loading]
      exact .of_atRest ((h.quiet unready).of_effect (by simpa [State.isReady] using unready) occurs other).settle

/-! ## The buffers of every block -/

/-- Settles O60: the law of each block's buffers by its own step lemma, and a new tick by the bound on a pair's
phases. -/
theorem buffersStaySound : Obligations.BuffersStaySound :=
  ⟨pairsTimely_kept, fun _ _ h stepped moved => adc_idle_at_new_tick h stepped moved, ringsSound_kept, arcRingSound_kept,
    linkSound_kept, publishedSound_kept⟩

end Sys2Proof.Machine
end

section
/-! PROOFS. RESTART and READY: the resets of a RESTART frame, and the start of the blocks' work (R82, R113, R118, R155,
R160, R168, R170, R171). -/

namespace Sys2Proof.Machine

/-! ## A RESTART frame (R155, R160, R170, R171) -/

/-- The first symbol strobe at or after a moment: an even tick, less than 2 ms away (R166). -/
theorem Tmb.strobe_next (t : Tmb) :
    t.strobe.toNat % 2 = 0 ∧ ((t.strobe ++ 0#13 : Instant) - t.instant).toNat < 16384 := by
  have moment := t.instant_toNat
  have strobe := Tmb.instant_toNat { tick := t.strobe, phase := 0 }
  have tick := t.tick.isLt
  have phase := t.phase.isLt
  rw [show Tmb.instant { tick := t.strobe, phase := 0 } = (t.strobe ++ 0#13 : Instant) from rfl] at strobe
  rw [BitVec.toNat_sub, strobe, moment]
  unfold Tmb.strobe
  split
  · rw [BitVec.toNat_add]
    simp
    omega
  · split
    · next start => simp [start]; omega
    · next later =>
      have positive : t.phase.toNat ≠ 0 := fun zero => later (BitVec.eq_of_toNat_eq zero)
      rw [BitVec.toNat_add]
      simp
      omega

/-- A sound frame stands in a buffer that holds bytes (R157). -/
theorem RxBuffer.bytes_ne_nil {rx : RxBuffer} {f : Byte × List Byte} (frame : rx.frame = some f) : rx.bytes ≠ [] := by
  intro empty
  simp [RxBuffer.frame, empty] at frame

/-- A RESTART frame end from READY on is the frame's effect and an emptied buffer (R156, R157). -/
theorem exec_restart {s : State} {raw : RawInputs} (running : s.held = false) (ready : s.cfl.loader = .ready)
    (idle : s.LineIdle) (frame : s.dlk.rx.frame = some (21, [])) :
    exec (.restart raw) s = .next (s.restartFrame raw).clearBuffer.settle := by
  have occurs : occursAt (.restart raw) s = true :=
    (State.frameEnds_iff ..).mpr ⟨RxBuffer.bytes_ne_nil frame, (State.lineIdle_iff s).mpr idle,
      (RxBuffer.row_eq_iff s.dlk.rx .restart).mpr ⟨_, frame, rfl⟩⟩
  have empty : requiredLength 21#8 = some 0 := rfl
  have accepted : s.frameRefusal 21 [] = none := by simp [State.frameRefusal, State.isReady, ready, empty]
  rw [exec_of_occurs rfl running occurs]
  simp only [effectOf, State.examine, frame, accepted]

/-- A RESTART puts every block but TMB and CFL at its reset values (R155, R170). -/
theorem State.restarted_atResetValues (s : State) (raw : RawInputs) :
    (s.restarted raw).clearBuffer.AtResetValues where
  contexts ch := by simp [restarted, clearBuffer, Crx.atReset, RxContext.atReset]
  transmitter := ⟨rfl, rfl, rfl, rfl, rfl, rfl, rfl, rfl⟩
  table := ⟨fun ch => by simp [restarted, clearBuffer, Ptb.atReset], rfl⟩
  rounds := rfl
  confidence := ⟨fun c => by cases c <;> rfl, rfl, rfl⟩
  measurement := ⟨rfl, rfl, rfl, rfl, rfl, rfl, rfl, rfl, rfl, rfl, rfl⟩
  draw := ⟨rfl, rfl, rfl, rfl, rfl, rfl, rfl, rfl⟩
  reference := ⟨rfl, rfl, rfl, rfl, rfl⟩
  chopper := ⟨rfl, rfl, rfl, rfl, rfl, rfl, rfl, rfl⟩
  sequencer := ⟨rfl, rfl, rfl, rfl, rfl, rfl, rfl, rfl, rfl, rfl⟩
  identity := ⟨rfl, rfl, rfl, rfl, rfl, rfl, rfl, rfl⟩
  gap := ⟨rfl, rfl, rfl, rfl⟩
  link := ⟨rfl, rfl, rfl, rfl, rfl, rfl, fun f => by cases f <;> rfl, rfl, rfl, rfl, rfl⟩
  timers := ⟨rfl, rfl, rfl, rfl, rfl⟩

/-- Settles O5: the frame end by PSQ's state, and the timers at their strobe. -/
theorem restartResets : Obligations.RestartResets := by
  refine fun s raw running ready => ⟨fun idle frame => ?_, fun due at' run => ?_⟩
  · have answers := exec_restart (raw := raw) running ready idle frame
    refine ⟨fun stowed => ?_, fun other => ?_⟩
    · rw [State.restartFrame, if_pos stowed] at answers
      obtain ⟨even, soon⟩ := s.tmb.strobe_next
      exact ⟨_, s.tmb.strobe, answers, s.restarted_atResetValues raw, running, rfl, rfl, rfl, rfl, rfl, rfl, rfl, rfl,
        rfl, rfl, rfl, even, soon⟩
    · rw [answers, State.restartFrame, if_neg other]
      rfl
  · have occurs : occursAt .restartTimerStart s = true := by
      simp [occursAt, State.isReady, ready, at', Timer.due, run]
    rw [exec_of_occurs rfl running occurs]
    rfl

/-! ## READY (R82, R118, R168, R171) -/

/-- The part as READY finds it, with its timers started and NTX in IDLE, before PSQ's part (R16, R171). -/
def State.blocksBegun (s : State) : State :=
  { s with
    cfl := { s.cfl with loader := .ready, readyAt := none }
    msu := { s.msu with runsFrom := some s.instant }
    ntx := { s.ntx with state := .idle, noticeTimer := .start s.now s.cfg.period }
    drp := { s.drp with stepTimer := .start s.now 10 }
    ptb := { s.ptb with sweepTimer := .start s.now 50 }
    dlk := { s.dlk with limitTimer := .start s.now 20, statusPending := true }
    crx := { s.crx with pilotEnd := .start s.now 100 } }

/-- READY starts the blocks, and PSQ retracts where the down-limit is false (R118, R171). -/
theorem State.enterReady_eq (s : State) : s.enterReady =
    if s.psq.downLimit.accepted then s.blocksBegun else s.blocksBegun.enterPsq .retracting := by
  have begun : s.enterReady = if s.psq.downLimit.accepted then s.blocksBegun else s.blocksBegun.enterRetracting := by
    simp only [State.enterReady, State.withNtx_eq]
    rfl
  rw [begun]
  split
  · rfl
  · next raised =>
    have free : (s.blocksBegun.enterPsq .retracting).psq.downLimit.accepted = false := by
      simpa [State.blocksBegun] using raised
    simp only [State.enterRetracting, free, Bool.false_eq_true, if_false]

/-- Settles O8: the event at its strobe, and PSQ by the down-limit. -/
theorem blocksBeginAtReady : Obligations.BlocksBeginAtReady := by
  intro s img due running loading image at' run started
  have occurs : occursAt .ready s = true := by
    simp [occursAt, loading, image, at', Timer.due, run]
  have begun : s.blocksBegun = started := by
    simp only [State.blocksBegun, State.cfg, image, started]
    rfl
  have answers : exec .ready s = .next s.enterReady.settle := exec_of_occurs rfl running occurs
  rw [answers, State.enterReady_eq, begun]
  refine ⟨fun stowed => ?_, fun raised => ?_⟩
  · rw [if_pos stowed]
  · rw [if_neg (by simp [raised])]

end Sys2Proof.Machine
end

section
/-! PROOFS. The brake chopper: its periods and their dead time, and its values in force (R85 to R93). -/

namespace Sys2Proof.Machine

/-! ## The dump length that a duty gives (R90) -/

/-- Below two dead times the dump pulse is suppressed. -/
theorem dumpLengthOf_eq_zero {duty dt : Nat} (short : duty < 2 * dt) : dumpLengthOf duty dt = 0 := by
  rw [dumpLengthOf, if_pos short]

/-- A duty that leaves room for both switches is the dump length. -/
theorem dumpLengthOf_eq_duty {duty dt : Nat} (long : 2 * dt ≤ duty) (room : duty + 2 * dt ≤ 256) :
    dumpLengthOf duty dt = duty := by
  rw [dumpLengthOf, if_neg (by omega), if_pos (by omega)]

/-- Where the clamp would have less than two dead times the dump takes the whole period. -/
theorem dumpLengthOf_eq_full {duty dt : Nat} (full : 256 < duty + 2 * dt) (long : 2 * dt ≤ duty) :
    dumpLengthOf duty dt = 256 := by
  rw [dumpLengthOf, if_neg (by omega), if_neg (by omega)]

/-! ## The switches at a count, and the dead time between them (R91, R92) -/

theorem dumpAt_iff {length count : Nat} : dumpAt length count = true ↔ count < length :=
  decide_eq_true_iff

theorem clampAt_eq (length dt count : Nat) :
    clampAt length dt count = decide (length < 256 ∧ length + dt ≤ count ∧ count + dt < 256) := by
  simp only [clampAt, Bool.decide_and, Bool.and_assoc]

theorem clampAt_iff {length dt count : Nat} :
    clampAt length dt count = true ↔ length < 256 ∧ length + dt ≤ count ∧ count + dt < 256 := by
  rw [clampAt_eq, decide_eq_true_iff]

/-- Within a period the clamp is on only after the dump, and more than the dead time later. -/
theorem clamp_follows_dump {length dt i j : Nat} (dump : dumpAt length i = true)
    (clamp : clampAt length dt j = true) : i + dt < j := by
  obtain ⟨-, after, -⟩ := clampAt_iff.mp clamp
  have before := dumpAt_iff.mp dump
  omega

/-- Every count at which the clamp is on lies more than the dead time before the next period, so before its dump. -/
theorem clamp_before_next_period {length dt j : Nat} (clamp : clampAt length dt j = true) (k : Nat) :
    j + dt < 256 + k := by
  obtain ⟨-, -, before⟩ := clampAt_iff.mp clamp
  omega

/-- Every count of a period lies more than the dead time before the clamp of the next, so its dump does. -/
theorem period_before_next_clamp {length dt i j : Nat} (within : i < 256) (clamp : clampAt length dt j = true) :
    i + dt < 256 + j := by
  obtain ⟨-, after, -⟩ := clampAt_iff.mp clamp
  omega

/-! ## The commands of a period (R88 to R91) -/

/-- While RUNNING the 1 ms tick starts a period. -/
theorem exec_chopperPeriodStart {s : State} (free : s.held = false) (running : s.bch.running = true)
    (tick : s.tmb.phase = 0) : exec .chopperPeriodStart s =
      .next (State.settle { s with bch := s.bch.startPeriod s.cfg.chopperRating s.cfg.deadTime }) := by
  have occurs : occursAt .chopperPeriodStart s = true := by simp [occursAt, Tmb.onTick, running, tick]
  exact exec_of_occurs rfl free occurs

/-- Every other tap of 32 cycles within a period is its next count, up to the last. -/
theorem exec_chopperCount {s : State} (free : s.held = false) (running : s.bch.running = true)
    (inPeriod : s.bch.inPeriod = true) (more : s.bch.count < 255) (later : s.tmb.phase ≠ 0)
    (tap : s.tmb.phase.toNat % 32 = 0) :
    exec .chopperCount s = .next (State.settle { s with bch := s.bch.nextCount s.cfg.deadTime }) := by
  have occurs : occursAt .chopperCount s = true := by
    simpa [occursAt, Tmb.onTick, Tmb.onTap, running, inPeriod, more, tap] using later
  exact exec_of_occurs rfl free occurs

/-- Settles O34: the dump length by its three cases, each command by what it does to BCH, and the dead time from the
switches' counts. -/
theorem chopperPeriods : Obligations.ChopperPeriods := by
  intro s free running dt dumps clamps
  have dumps_eq (length count : Nat) : dumps length count = dumpAt length count := rfl
  have clamps_eq (length count : Nat) : clamps length count = clampAt length dt count :=
    (clampAt_eq length dt count).symm
  simp only [dumps_eq, clamps_eq]
  refine ⟨fun tick => ?_, ?_, fun _ _ _ => clamp_follows_dump, fun _ _ _ _ k clamp => ⟨fun _ => ?_, fun within _ => ?_⟩⟩
  · exact ⟨dutyOf s.bch.chopperInForce s.cfg.chopperRating, _, rfl, dumpLengthOf_eq_zero, dumpLengthOf_eq_duty,
      dumpLengthOf_eq_full, exec_chopperPeriodStart free running tick⟩
  · exact exec_chopperCount free running
  · exact clamp_before_next_period clamp k
  · exact period_before_next_clamp within clamp

/-! ## The values in force and the drive state (R85, R86, R93) -/

/-- The contactor is closed in ENGAGED and in CUTTING only (R114). -/
theorem PsqState.closed_eq_false {st : PsqState} (engaged : st ≠ .engaged) (cutting : st ≠ .cutting) :
    st.closed = false := by
  cases st
  case engaged => exact absurd rfl engaged
  case cutting => exact absurd rfl cutting
  all_goals rfl

/-- With the contactor open nothing is in force (R85). -/
theorem inForce_of_open {st : PsqState} (opened : st.closed = false) (cut : Bool) (regen chopper : Nat) :
    inForce st cut regen chopper = (0, 0) := by
  cases st
  case engaged => cases opened
  case cutting => cases opened
  all_goals rfl

/-- In CUTTING, and in ENGAGED under the gap cut, the chopper takes the whole published pair (R85, R86). -/
theorem inForce_of_cut {st : PsqState} {cut : Bool} (given : (st = .engaged ∧ cut = true) ∨ st = .cutting)
    (regen chopper : Nat) : inForce st cut regen chopper = (0, regen + chopper) := by
  obtain ⟨rfl, rfl⟩ | rfl := given <;> rfl

/-- With the contactor closed BCH runs on in its period with the values of R85. -/
theorem State.refreshChopper_bch_closed {s : State} (closed : s.psq.state.closed = true) {regen chopper : Nat}
    (values : inForce s.psq.state s.sgm.cut s.sre.regen s.sre.chopper = (regen, chopper)) :
    s.refreshChopper.bch = { s.bch with running := true, regenInForce := regen, chopperInForce := chopper } := by
  simp only [State.refreshChopper_bch, closed, values, if_true]

/-- With the contactor open BCH stands down, its period abandoned (R93). -/
theorem State.refreshChopper_bch_open {s : State} (opened : s.psq.state.closed = false) :
    s.refreshChopper.bch = { s.bch.stop with regenInForce := 0, chopperInForce := 0 } := by
  simp only [State.refreshChopper_bch, opened, inForce_of_open opened, Bool.false_eq_true, if_false]
  rfl

/-- What follows a change of R85's inputs is BCH's alone. -/
theorem State.refreshChopper_eq (s : State) : s.refreshChopper = { s with bch := s.refreshChopper.bch } := by
  simp only [State.refreshChopper]
  split <;> rfl

/-- Settles O35: the contactor closed with R85's values, closed with all of them on the chopper, and open. -/
theorem chopperFollowsTheSequencer : Obligations.ChopperFollowsTheSequencer := by
  intro s regen chopper u
  refine ⟨s.refreshChopper_eq, fun engaged uncut => ?_, fun cut => ?_, fun engaged cutting => ?_⟩
  · exact State.refreshChopper_bch_closed (by rw [engaged]; rfl) (by rw [engaged, uncut]; rfl)
  · have closed : s.psq.state.closed = true := by
      obtain ⟨engaged, -⟩ | cutting := cut
      · rw [engaged]; rfl
      · rw [cutting]; rfl
    exact State.refreshChopper_bch_closed closed (inForce_of_cut cut ..)
  · exact State.refreshChopper_bch_open (PsqState.closed_eq_false engaged cutting)

end Sys2Proof.Machine
end

section
/-! PROOFS. What a command can do to the draw: recompositions, entries to a sequencer state, a ramp step, READY, a
RESTART, a loaded image, and the reference's counts (R97 to R102, R109 to R111, R117). -/

namespace Sys2Proof.Machine

/-! ## Redrawing (R97, R98, R101, R117) -/

/-- What the laws of the draw read of a state besides T's terms; the ramp step timer is put to a fixed value. -/
def State.drawView (s : State) : Loader × Option Image × Drp × Lrg × PsqState :=
  (s.cfl.loader, s.cfl.image, { s.drp with stepTimer := none }, s.lrg, s.psq.state)

/-- The terms of T, cut in force and hold besides PSQ's state (R96, R97). Silence is read through DLK's core, which most
operations leave. -/
def State.termsView (s : State) : Bool × Bool × Nat × Bool × Bool :=
  (s.psq.arcWarn, s.sgm.cut, s.sre.grant, s.dlk.core.silence, s.msu.collapse)

/-- What an event other than a ramp step, READY or a RESTART can make of the draw: it changes nothing that the draw
reads, or it changes terms and recomposes, or it has PSQ enter a state, any number of times. STOWED is left from READY
on only (R118), and the contactor is closed only while A stands as it did at first. -/
inductive State.Redrawn (s : State) : State → Prop
  | refl : s.Redrawn s
  | same {u v : State} (before : s.Redrawn u) (view : v.drawView = u.drawView) (terms : v.termsView = u.termsView) :
      s.Redrawn v
  | recompose {u v : State} (before : s.Redrawn u) (view : v.drawView = u.drawView)
      (arc : v.psq.arcWarn = u.psq.arcWarn ∨ u.psq.state.closed = true) (cutArrives : Bool) :
      s.Redrawn (v.recompose cutArrives)
  | enter {u v : State} (before : s.Redrawn u) (view : v.drawView = u.drawView)
      (arc : v.psq.arcWarn = u.psq.arcWarn ∨ u.psq.state.closed = true) {st : PsqState}
      (leaves : u.isReady = true ∨ u.psq.state ≠ .stowed ∨ st = .stowed)
      (closes : st.closed = true → v.drp.applied = s.drp.applied) : s.Redrawn (v.enterPsq st)

namespace State.Redrawn

variable {s u : State}

/-! ### The sequencer (R113 to R125) -/

/-- PSQ goes on from a state other than STOWED to one whose contactor is open. -/
theorem enterOpen (h : s.Redrawn u) {st : PsqState} (opens : st.closed = false) (raised : u.psq.state ≠ .stowed) :
    s.Redrawn (u.enterPsq st) :=
  h.enter rfl (.inl rfl) (.inr (.inl raised)) (fun closed => by rw [opens] at closed; cases closed)

theorem setSticky (h : s.Redrawn u) (f : StickyFault) : s.Redrawn (u.setSticky f) := h.same rfl rfl

theorem triggerStatus (h : s.Redrawn u) : s.Redrawn u.triggerStatus := h.same rfl rfl

theorem refuse (h : s.Redrawn u) (ty : Byte) (r : RefuseReason) : s.Redrawn (u.refuse ty r) :=
  h.same (by simp [drawView]) (by unfold State.refuse; split <;> rfl)

/-- CUTTING is entered at the A that stands; where that is 0, DISCHARGE follows (R122). -/
theorem enterCutting (h : s.Redrawn u) {v : State} (view : v.drawView = u.drawView) (engaged : u.psq.state = .engaged)
    (kept : v.drp.applied = s.drp.applied) : s.Redrawn v.enterCutting := by
  unfold State.enterCutting
  have entered : s.Redrawn (v.enterPsq .cutting) :=
    h.enter view (.inr (by rw [engaged]; rfl)) (.inr (.inl (by simp [engaged]))) (fun _ => kept)
  dsimp only
  split
  · exact entered.enterOpen rfl (by simp)
  · exact entered

theorem enterRetracting (h : s.Redrawn u) (raised : u.isReady = true ∨ u.psq.state ≠ .stowed) :
    s.Redrawn u.enterRetracting := by
  unfold State.enterRetracting
  have entered : s.Redrawn (u.enterPsq .retracting) :=
    h.enter rfl (.inl rfl) (raised.elim .inl fun other => .inr (.inl other)) (fun closed => by cases closed)
  dsimp only
  split
  · exact entered.enterOpen rfl (by simp)
  · exact entered

/-! ### The gap record (R140 to R143) -/

/-- A changed term is read by DRP, and by BCH, which the draw does not read (R85, R98). -/
theorem redraw (h : s.Redrawn u) {v : State} (view : v.drawView = u.drawView) (arc : v.psq.arcWarn = u.psq.arcWarn)
    (cutArrives : Bool) : s.Redrawn (v.redraw cutArrives) :=
  (h.recompose view (.inl arc) cutArrives).same (by simp [drawView]) (by simp [termsView])

theorem startGapCut (h : s.Redrawn u) : s.Redrawn u.startGapCut := by
  unfold State.startGapCut
  apply h.redraw <;> rfl

theorem endGapCut (h : s.Redrawn u) : s.Redrawn u.endGapCut := by
  unfold State.endGapCut
  split
  · apply h.redraw <;> rfl
  · exact h

theorem disarmGap (h : s.Redrawn u) : s.Redrawn u.disarmGap := by
  unfold State.disarmGap
  apply endGapCut
  exact h.same rfl rfl

theorem judgeGap (h : s.Redrawn u) : s.Redrawn u.judgeGap := by
  unfold State.judgeGap
  split
  · exact h
  · split
    · exact h.startGapCut
    · exact h

theorem gapFrame (h : s.Redrawn u) (metres speed : Nat) : s.Redrawn (u.gapFrame metres speed) := by
  unfold State.gapFrame
  split
  · split
    · exact h.disarmGap
    · exact h
  · apply endGapCut
    exact h.same rfl rfl

theorem countdownRunsOut (h : s.Redrawn u) : s.Redrawn u.countdownRunsOut := by
  unfold State.countdownRunsOut
  have started : s.Redrawn (if u.sgm.phase = .approach then u.startGapCut else u) := by
    split
    · exact h.startGapCut
    · exact h
  exact started.same rfl rfl

/-! ### Contact, limits and the arc monitor (R116 to R129) -/

theorem psqContactLost (h : s.Redrawn u) : s.Redrawn u.psqContactLost := by
  unfold State.psqContactLost
  split
  · next engaged =>
    refine h.enterOpen ?_ (by simp [engaged])
    split <;> rfl
  · next cutting => exact h.enterOpen rfl (by simp [cutting])
  · next precharge =>
    have retried : s.Redrawn { u with psq := { u.psq with retry := saturate 3 u.psq.retry } } := h.same rfl rfl
    dsimp only
    split
    · exact retried.enterOpen rfl (by simp [precharge])
    · exact (retried.setSticky _).enterOpen rfl (by simp [precharge])
  · exact h

theorem contactLost (h : s.Redrawn u) : s.Redrawn u.contactLost := by
  have silenced : s.Redrawn u.abortNotice := h.same (by simp [drawView]) (by simp [termsView])
  have cut (g : Sgm) : g.contactLost.cut = g.cut := by unfold Sgm.contactLost; split <;> rfl
  exact silenced.psqContactLost.same rfl (by simp [State.contactLost, termsView, cut])

theorem psqContactReturned (h : s.Redrawn u) : s.Redrawn u.psqContactReturned := by
  unfold State.psqContactReturned
  split
  · next raising =>
    split
    · exact h.enterOpen rfl (by simp [raising])
    · exact (h.setSticky _).enterOpen rfl (by simp [raising])
  · next dropout => exact h.enterOpen rfl (by simp [dropout])
  · next coast => exact h.enterOpen rfl (by simp [coast])
  · exact h

theorem contactReturned (h : s.Redrawn u) : s.Redrawn u.contactReturned := by
  unfold State.contactReturned
  dsimp only
  split
  · exact h.psqContactReturned.disarmGap
  · exact h.psqContactReturned

theorem downLimitReached (h : s.Redrawn u) : s.Redrawn u.downLimitReached := by
  unfold State.downLimitReached
  split
  · exact h.same rfl rfl
  · split
    · next retracting => exact h.enterOpen rfl (by simp [retracting])
    · next stuck => exact h.enterOpen rfl (by simp [stuck])
    · exact h

theorem filterEdge (h : s.Redrawn u) (input : FilterId) (level : Bool) : s.Redrawn (u.filterEdge input level) := by
  cases input with
  | contact =>
    have sampled : s.Redrawn { u with psq := { u.psq with contact := u.psq.contact.sample level } } := h.same rfl rfl
    simp only [State.filterEdge, State.contactEdge]
    split
    · split
      · exact sampled.contactReturned
      · exact sampled.contactLost
    · exact sampled
  | upLimit => exact h.same rfl rfl
  | downLimit =>
    have sampled : s.Redrawn { u with psq := { u.psq with downLimit := u.psq.downLimit.sample level } } :=
      h.same rfl rfl
    simp only [State.filterEdge, State.downLimitEdge]
    split
    · exact sampled.downLimitReached
    · exact sampled

/-- The comparison of the arc sum, which runs with the contactor closed (R129). -/
theorem compareArc (h : s.Redrawn u) (closed : u.psq.state.closed = true) (kept : u.drp.applied = s.drp.applied) :
    s.Redrawn u.compareArc := by
  unfold State.compareArc
  dsimp only
  split
  · split
    · next engaged => exact h.enterCutting rfl engaged kept
    · split
      · next warned => exact h.same rfl (by simp [termsView, warned])
      · exact h.recompose (by rfl) (.inr closed) false
  · split
    · next unmoved => exact h.same rfl (by simp [termsView, unmoved])
    · exact h.recompose (by rfl) (.inr closed) false

/-! ### Rounds, sections and samples (R44, R63, R80, R134 to R138) -/

theorem noticeExpiry (s : State) : s.Redrawn s.noticeExpiry := by
  unfold State.noticeExpiry
  set u := State.ntxExpiry { s with ntx := { s.ntx with noticeTimer := s.ntx.noticeTimer.reload s.cfg.period } } with hu
  have silenced : s.Redrawn u := by
    refine refl.same ?_ ?_ <;> rw [hu, State.ntxExpiry_eq] <;> rfl
  dsimp only
  unfold State.sreExpiry
  split
  · exact silenced.same rfl rfl
  · unfold State.zeroPublished
    apply silenced.redraw <;> rfl

theorem roundEnds (s : State) : s.Redrawn s.roundEnds := by
  unfold State.roundEnds
  split
  · exact refl
  · next r _ =>
    unfold State.completeRound
    dsimp only
    split
    · have published : s.Redrawn (s.publish r) := by
        unfold State.publish
        apply refl.redraw <;> rfl
      exact published.same (by simp [drawView]) (by simp [termsView])
    · have void : s.Redrawn s.voidRound := refl.same rfl rfl
      exact void.same (by simp [drawView]) (by simp [termsView])

theorem changeSection (h : s.Redrawn u) (p : PilotCode) : s.Redrawn (u.changeSection p) := by
  unfold State.changeSection
  dsimp only
  split
  · apply disarmGap
    exact h.same (by simp [drawView]) (by simp [termsView])
  · exact h.same (by simp [drawView]) (by simp [termsView])

theorem windowEnds (s : State) (result : Option PilotCode) : s.Redrawn (s.windowEnds result) := by
  unfold State.windowEnds
  set u : State := { s with crx := { s.crx with pilotEnd := s.crx.pilotEnd.reload 100 } }
  have reloaded : s.Redrawn u := refl.same rfl rfl
  dsimp only
  split
  · next p =>
    unfold State.windowCode
    have counted : s.Redrawn { u with sgm := { u.sgm with stability := saturate 3 u.sgm.stability,
                                                          noneCount := 0 } } :=
      reloaded.same rfl rfl
    dsimp only
    split
    · split
      · unfold State.establish
        split
        · refine counted.same ?_ ?_ <;> unfold State.pilotReturned <;> split <;> simp [drawView, termsView]
        · exact counted.changeSection p
      · exact counted
    · exact reloaded.same rfl rfl
  · refine reloaded.same ?_ ?_ <;> simp only [State.windowNone] <;> split <;> simp [drawView, termsView]

theorem takeVoltage (s : State) (volts : Nat) : s.Redrawn (s.takeVoltage volts) := by
  rw [State.takeVoltage_eq]
  dsimp only
  split
  · next unmoved => exact refl.same rfl (by simp [termsView, unmoved])
  · exact refl.recompose (u := s) (by rfl) (.inl (by rfl)) false

/-- A current sample moves no term of T: the collapse state is judged at voltage samples (R74, R80). -/
theorem takeCurrent (s : State) (current : Int) : s.Redrawn (s.takeCurrent current) := by
  have collapse : (s.takeCurrent current).msu.collapse = s.msu.collapse := by
    simp only [State.takeCurrent, State.judgeRaised, State.judgeClear]
    (repeat' split) <;> simp
  exact refl.same (by simp [drawView]) (by simp [termsView, collapse])

/-! ### Timers and frames (R119 to R129, R156 to R160) -/

theorem prechargeDone (precharge : s.psq.state = .precharge) : s.Redrawn s.prechargeDone := by
  unfold State.prechargeDone
  split
  · exact (refl.setSticky _).enterOpen rfl (by simp [precharge])
  · exact refl.enter rfl (.inl rfl) (.inr (.inl (by simp [precharge]))) (fun _ => rfl)

theorem ringAdvances (s : State) : s.Redrawn s.ringAdvances := by
  unfold State.ringAdvances
  have timed : s.Redrawn { s with psq := { s.psq with ringTimer := s.psq.ringTimer.reload 125 } } := refl.same rfl rfl
  dsimp only
  split
  · next closed => exact (timed.compareArc closed rfl).same rfl rfl
  · exact timed.same rfl rfl

theorem standStow (s : State) : s.Redrawn s.standStow := by
  unfold State.standStow
  have stood : s.Redrawn { s with dlk := { s.dlk with stow := true, stowTimer := none } } := refl.same rfl rfl
  dsimp only
  split
  · next engaged => exact (stood.setSticky _).enterCutting rfl engaged rfl
  · exact stood

/-- Silence comes into force, and DRP takes its link cap (R98, R159). -/
theorem beginSilence (s : State) : s.Redrawn s.beginSilence :=
  refl.recompose (u := s) (by rfl) (.inl (by rfl)) false

/-- A frame end changes nothing that the draw reads where the frame is dropped or refused (R156, R157). -/
theorem examine {act : List Byte → State → State} (taken : ∀ payload, s.Redrawn (act payload s)) :
    s.Redrawn (s.examine act) :=
  State.examine_keeps (fun _ h => h.same rfl rfl) (refl.same rfl rfl) refl.refuse taken

theorem demandFrame (s : State) (payload : List Byte) : s.Redrawn (s.demandFrame payload) := by
  unfold State.demandFrame
  split
  · exact refl.refuse ..
  · unfold State.takeDemand
    dsimp only
    split
    · exact refl.recompose (u := s) (by rfl) (.inl (by rfl)) false
    · next heard => exact refl.same rfl (by simpa [termsView, Dlk.core] using heard)

theorem raiseFrame (ready : s.isReady = true) : s.Redrawn s.raiseFrame := by
  unfold State.raiseFrame
  split
  · exact refl.enter rfl (.inl rfl) (.inl ready) (fun closed => by cases closed)
  · exact refl.triggerStatus
  · exact refl.refuse ..

theorem lowerTaken (s : State) : s.Redrawn s.lowerTaken := by
  unfold State.lowerTaken
  split
  · next raising => exact refl.enterRetracting (.inr (by simp [raising]))
  · next engaged => exact refl.enterCutting rfl engaged rfl
  · next precharge => exact refl.enterOpen rfl (by simp [precharge])
  · next dropout => exact refl.enterOpen rfl (by simp [dropout])
  · next coast => exact refl.enterOpen rfl (by simp [coast])
  all_goals exact refl

theorem lowerFrame (s : State) : s.Redrawn s.lowerFrame := by
  unfold State.lowerFrame
  split
  · exact lowerTaken s
  · exact refl.triggerStatus
  · exact refl.refuse ..

end State.Redrawn

/-- A PANTO RAISE takes PSQ out of STOWED from READY on only (R157). -/
theorem State.Redrawn.pantoRaise {s : State} (ends : s.frameEnds .pantoRaise = true) :
    s.Redrawn (s.examine fun _ u => u.raiseFrame) := by
  rcases State.examine_cases s (fun _ u => u.raiseFrame) with
    ⟨-, e⟩ | ⟨ty, payload, frame, ⟨r, -, e⟩ | ⟨taken, -, e⟩⟩ <;> rw [e]
  · exact refl.same rfl rfl
  · exact (refl.refuse ty r).same rfl rfl
  · obtain ⟨-, -, isRow⟩ := (State.frameEnds_iff ..).mp ends
    obtain ⟨f, sound, panto, -⟩ := (RxBuffer.row_eq_iff s.dlk.rx .pantoRaise).mp isRow
    cases sound.symm.trans frame
    rcases taken with ready | query
    · exact (raiseFrame ready).same rfl rfl
    · exact absurd (panto.symm.trans query) (by decide)

/-! ## What a command's effect makes of the draw -/

/-- The part after DRP's own part of a ramp step, with LRG told (R100, R102). -/
def State.rampMoved (s : State) : State :=
  { s with drp := { s.drp.step s.cfg.slewUp s.cfg.slewDown s.cfg.slewCut with
    stepTimer := s.drp.stepTimer.reload 10 } }.handCodeIf s.drp.applied

/-- A ramp step goes on with SGM's judgement and PSQ's "A at zero" (R102, R122, R141). -/
theorem State.Redrawn.rampStep (s : State) : s.rampMoved.Redrawn s.rampStep := by
  have judged : s.rampMoved.Redrawn s.rampMoved.judgeGap := refl.judgeGap
  show s.rampMoved.Redrawn s.rampMoved.judgeGap.handZero
  unfold State.handZero
  split
  · next cutting => exact judged.enterOpen rfl (by rw [cutting.1]; decide)
  · exact judged

/-- READY starts the blocks, and PSQ retracts or stays (R118, R171). -/
theorem State.Redrawn.enterReady (s : State) : s.blocksBegun.Redrawn s.enterReady := by
  rw [State.enterReady_eq]
  split
  · exact refl
  · exact refl.enter rfl (.inl rfl) (.inl rfl) (fun closed => by cases closed)

/-- Everything that a command's effect can make of the draw: what redraws, from the state itself, from READY's start of
the blocks or from DRP's part of a ramp step; a RESTART taken; a block loaded; and the reference's own counts. -/
inductive EffectDraws (c : Instr) (s : State) : State → Prop
  | redrawn {u : State} (draws : s.Redrawn u) : EffectDraws c s u
  | ready {u : State} (isReady : c = .ready) (draws : s.blocksBegun.Redrawn u) : EffectDraws c s u
  | ramp {u : State} (isRamp : c = .rampStep) (draws : s.rampMoved.Redrawn u) : EffectDraws c s u
  | restart (raw : RawInputs) (isRestart : c = .restart raw) : EffectDraws c s (s.restarted raw).clearBuffer
  | load (block : List Byte) (loading : s.cfl.loader = .loading) : EffectDraws c s (s.judgeBlock block)
  | group : EffectDraws c s { s with lrg := s.lrg.startGroup }
  | count : EffectDraws c s { s with lrg := s.lrg.nextCount }

/-- A RESTART frame resets the part where it is taken, and is no event of the draw where it is refused (R160, R170). -/
theorem restart_draws (s : State) (raw : RawInputs) : EffectDraws (.restart raw) s (effectOf (.restart raw) s) := by
  rcases State.examine_cases s (fun _ u => u.restartFrame raw) with ⟨-, e⟩ | ⟨ty, -, -, ⟨r, -, e⟩ | ⟨-, -, e⟩⟩ <;>
    rw [effectOf, e]
  · exact .redrawn (.same .refl rfl rfl)
  · exact .redrawn ((State.Redrawn.refl.refuse ty r).same rfl rfl)
  · unfold State.restartFrame
    split
    · exact .restart raw rfl
    · exact .redrawn ((State.Redrawn.refl.refuse ..).same rfl rfl)

/-- What each command does to the draw, said once: the laws of A, T and the reference are each derived from it. -/
theorem effectOf_draws {c : Instr} {s : State} (occurs : occursAt c s = true) : EffectDraws c s (effectOf c s) := by
  have expired {st : PsqState} (expires : s.timerExpires st = true) : s.psq.state = st := by
    simp only [State.timerExpires, Bool.and_eq_true, beq_iff_eq] at expires
    exact expires.1
  cases c
  case spiReadCompletion block =>
    simp only [occursAt, Bool.and_eq_true, beq_iff_eq] at occurs
    exact .load block occurs.1.1
  case ready => exact .ready rfl (.enterReady s)
  case rampStep => exact .ramp rfl (.rampStep s)
  case restart raw => exact restart_draws s raw
  case groupStart => exact .group
  case pwmCount => exact .count
  all_goals refine .redrawn ?_
  case loaderRetryExpiry => exact .same .refl rfl rfl
  case restartTimerStart => exact .same .refl rfl rfl
  case noticeTimerExpiry => exact .noticeExpiry s
  case roundCompletion => exact .roundEnds s
  case conversionPairStart => exact .same .refl rfl rfl
  case voltageConversionCompletion code => exact .takeVoltage s _
  case currentConversionCompletion code => exact .takeCurrent s _
  case contactStrobe contact =>
    refine .same .refl ?_ ?_ <;> simp only [effectOf, Psq.contactSample] <;> split <;> rfl
  case pilotWindowEnd => exact .windowEnds s _
  case rejoinExpiry =>
    refine .same .refl ?_ ?_ <;> simp [effectOf, State.endRejoin, State.drawView, State.termsView]
  case countdownRunOut => exact State.Redrawn.refl.countdownRunsOut
  case graceExpiry => exact (State.Redrawn.refl.setSticky _).disarmGap
  case gap => exact .examine fun payload => State.Redrawn.refl.gapFrame ..
  case demand => exact .examine fun payload => .demandFrame s payload
  case query => exact .examine fun _ => State.Redrawn.refl.triggerStatus
  case frameDropped => exact .examine (act := fun _ u => u) fun _ => .refl
  case pantoBadValue =>
    exact .examine (act := fun _ u => u.refuse typePanto .badValue) fun _ => State.Redrawn.refl.refuse ..
  case byteReceived => exact .same .refl rfl rfl
  case silenceTimerExpiry => exact .beginSilence s
  case contactLoss => exact State.Redrawn.refl.filterEdge .contact false
  case contactReturn => exact State.Redrawn.refl.filterEdge .contact true
  case downLimit => exact State.Redrawn.refl.filterEdge .downLimit true
  case filterEdge input level => exact State.Redrawn.refl.filterEdge input level
  case raiseTimeout =>
    exact (State.Redrawn.refl.setSticky _).enterRetracting (.inr (by simp [expired occurs]))
  case prechargeExpiry => exact .prechargeDone (expired occurs)
  case reacquireExpiry => exact (State.Redrawn.refl.setSticky _).enterOpen rfl (by simp [expired occurs])
  case coastExpiry => exact State.Redrawn.refl.enterOpen rfl (by simp [expired occurs])
  case dischargeExpiry => exact State.Redrawn.refl.enterRetracting (.inr (by simp [expired occurs]))
  case retractTimeout => exact (State.Redrawn.refl.setSticky _).enterOpen rfl (by simp [expired occurs])
  case ringAdvance => exact .ringAdvances s
  case pantoRaise => exact .pantoRaise occurs
  case pantoLower => exact .examine fun _ => .lowerFrame s
  case stowTimerExpiry => exact .standStow s
  all_goals
    refine .same .refl ?_ ?_
    · simp only [State.drawView]
      rw [effectOf_cfl rfl, effectOf_drp rfl, effectOf_lrg rfl, effectOf_psq rfl]
    · simp only [State.termsView]
      rw [effectOf_psq rfl, effectOf_sgm rfl, effectOf_sre rfl, effectOf_core rfl, effectOf_msu rfl]

end Sys2Proof.Machine
end

section
/-! PROOFS. A within Rt and the reference at its code: every step keeps them (R97, R101, R107 to R111). -/

namespace Sys2Proof.Machine

/-! ## Reference codes (R109) -/

/-- The code of 0 is 0, whatever Rt (R109). -/
@[simp] theorem codeOf_zero (rated : Nat) : codeOf 0 rated = 0 := by
  unfold codeOf
  rcases rated.eq_zero_or_pos with rfl | positive
  · rfl
  · exact Nat.div_eq_of_lt (by omega)

/-- The code of Rt is 1,023 (R109). -/
theorem codeOf_rated {rated : Nat} (positive : 0 < rated) : codeOf rated rated = 1023 := by
  unfold codeOf
  rw [Nat.mul_add_div positive, Nat.div_eq_of_lt (by omega)]

/-- The code does not fall as A rises (R109). -/
theorem codeOf_mono {less applied : Nat} (rated : Nat) (order : less ≤ applied) :
    codeOf less rated ≤ codeOf applied rated :=
  Nat.div_le_div_right (by omega)

/-- The code of an A within Rt is at most 1,023 (R109). -/
theorem codeOf_le {applied rated : Nat} (within : applied ≤ rated) : codeOf applied rated ≤ 1023 := by
  rcases rated.eq_zero_or_pos with rfl | positive
  · simp [codeOf]
  · exact (codeOf_mono rated within).trans (codeOf_rated positive).le

/-! ## T within Rt, and at 0 with the contactor open (R97) -/

/-- A cap that is 0 while a condition stands is within Rt. -/
theorem Cap.zeroWhile_le (stands : Bool) (rated : Nat) : (Cap.zeroWhile stands).value rated ≤ rated := by
  cases stands <;> simp [Cap.zeroWhile, Cap.value]

/-- T is within the sequencer's cap (R97). -/
theorem State.target_le_sequencer (s : State) (grant rated : Nat) :
    s.capsNow.target grant rated ≤ (Cap.zeroWhile (s.psq.state != .engaged)).value rated :=
  (min_le_right ..).trans (min_le_left ..)

/-- T is within Rt (R97). -/
theorem State.target_le_rated (s : State) (grant rated : Nat) : s.capsNow.target grant rated ≤ rated :=
  (s.target_le_sequencer grant rated).trans (Cap.zeroWhile_le ..)

/-- T is 0 outside ENGAGED (R97). -/
theorem State.target_of_not_engaged {s : State} (other : s.psq.state ≠ .engaged) (grant rated : Nat) :
    s.capsNow.target grant rated = 0 := by
  have capped := s.target_le_sequencer grant rated
  rw [show (s.psq.state != .engaged) = true by simpa using other] at capped
  exact Nat.le_zero.mp capped

theorem PsqState.ne_engaged_of_open {st : PsqState} (opened : st.closed = false) : st ≠ .engaged := by
  rintro rfl; cases opened

/-- No cut is in force with the contactor open (R96). -/
theorem State.cutNow_of_open {s : State} (opened : s.psq.state.closed = false) : s.cutNow = false := by
  have engaged : s.psq.state ≠ .engaged := PsqState.ne_engaged_of_open opened
  have cutting : s.psq.state ≠ .cutting := by
    intro cutting; rw [cutting] at opened; cases opened
  simp [State.cutNow, engaged, cutting]

/-- A recomposition that finds A and T at 0, no episode and no cut starts none (R103). -/
theorem Drp.recompose_episode_none {d : Drp} (applied : d.applied = 0) (episode : d.episode = none) (caps : Caps)
    (hold cutArrives : Bool) : (d.recompose caps 0 false hold cutArrives).episode = none := by
  simp [Drp.recompose, applied, episode, startEpisode, holdEpisode]

/-! ## A and T within their bounds (R97, R101, R107) -/

namespace State.DrawBounded

variable {s : State}

/-- A recomposition leaves A and puts T within Rt; with the contactor open it finds and leaves everything at 0. -/
theorem recompose (h : s.DrawBounded) (cutArrives : Bool) : (s.recompose cutArrives).DrawBounded := by
  cases ready : s.isReady with
  | false => simpa [State.recompose, ready] using h
  | true =>
    have drp := s.recompose_drp cutArrives
    rw [if_pos ready] at drp
    obtain ⟨-, target, cut, hold, applied, -⟩ := s.drp.recompose_terms s.capsNow
      (s.capsNow.target s.sre.grant s.cfg.rated) s.cutNow s.psq.arcWarn cutArrives
    refine ⟨?_, ?_, fun opened => ?_, ?_, ?_⟩
    · rw [drp, applied]; simpa using h.applied
    · rw [drp, target]; simpa using s.target_le_rated ..
    · replace opened : s.psq.state.closed = false := by simpa using opened
      obtain ⟨rest, -, episode, -, -⟩ := h.opened opened
      have quiet : s.psq.arcWarn = false := by
        cases warn : s.psq.arcWarn with
        | false => rfl
        | true => rw [h.arcWarn warn] at opened; cases opened
      have zero := State.target_of_not_engaged (PsqState.ne_engaged_of_open opened) s.sre.grant s.cfg.rated
      rw [drp, applied, target, cut, hold, zero, State.cutNow_of_open opened]
      exact ⟨rest, rfl, Drp.recompose_episode_none rest episode .., rfl, quiet⟩
    · simpa using h.arcWarn
    · simpa using h.ready

/-- An entry to a state zeroes the draw, or recomposes (R98, R101). -/
theorem enterPsq (h : s.DrawBounded) {st : PsqState}
    (leaves : s.isReady = true ∨ s.psq.state ≠ .stowed ∨ st = .stowed) :
    (s.enterPsq st).DrawBounded := by
  have applied := s.enterPsq_applied st
  have drp := s.enterPsq_drp st
  have warn : (s.enterPsq st).psq.arcWarn = true → st.closed = true := by
    rw [State.enterPsq_psq, Psq.enter]
    dsimp only
    split
    · next cutting => exact fun _ => by rw [cutting]; rfl
    · exact fun absurd => by cases absurd
  have ready : (s.enterPsq st).cfl.loader ≠ .ready → (s.enterPsq st).psq.state = .stowed := by
    rw [(s.enterPsq_frame st).2.2.2.1, State.enterPsq_psq]
    intro unready
    rcases leaves with isReady | raised | stowed
    · exact absurd (by simpa [State.isReady] using isReady) unready
    · exact absurd (h.ready unready) raised
    · exact stowed
  cases closed : st.closed with
  | true =>
    rw [if_pos closed] at applied drp
    have target : (s.enterPsq st).drp.target ≤ s.cfg.rated := by
      rw [drp, State.recompose_drp]
      split
      · rw [(Drp.recompose_terms ..).2.1]; exact State.target_le_rated ..
      · exact h.target
    refine ⟨?_, ?_, fun opened => ?_, ?_, ready⟩
    · rw [applied]; simpa using h.applied
    · simpa using target
    · rw [State.enterPsq_psq, Psq.enter_state, closed] at opened; cases opened
    · simp [closed]
  | false =>
    rw [if_neg (by simp [closed])] at drp
    refine ⟨?_, ?_, fun _ => ?_, ?_, ready⟩
    · rw [drp]; exact Nat.zero_le _
    · rw [drp]; exact Nat.zero_le _
    · rw [drp]; exact ⟨rfl, rfl, rfl, rfl, rfl⟩
    · simpa [closed] using warn

end State.DrawBounded

/-! ## One step of A (R100, R104) -/

/-- The A that a ramp step goes to (R100). -/
def Drp.next (d : Drp) (slewUp slewDown slewCut : Nat) : Nat :=
  if d.applied < d.target then (if d.hold then d.applied else min d.target (d.applied + slewUp))
  else max d.target (d.applied - (if d.cut then slewCut else slewDown))

/-- The episode and its ending after a ramp step to an A: a step that moves A is counted, and one that brings A to T
completes the episode (R104). -/
def Drp.counted (d : Drp) (next : Nat) : Option Episode × LastEnding :=
  match d.episode with
  | none => (none, d.last)
  | some e =>
    if next = d.applied then (some e, d.last)
    else if next = d.target then (none, { ending := .completed, steps := e.steps + 1 })
    else (some { e with steps := e.steps + 1 }, d.last)

namespace Drp

variable (d : Drp) (slewUp slewDown slewCut : Nat)

/-- A ramp step moves A and counts, and leaves all else of DRP (R100, R104). -/
theorem step_eq : d.step slewUp slewDown slewCut =
    { d with
      applied := d.next slewUp slewDown slewCut
      episode := (d.counted (d.next slewUp slewDown slewCut)).1
      last := (d.counted (d.next slewUp slewDown slewCut)).2 } := by
  unfold Drp.step
  rw [← Drp.next]
  dsimp only
  by_cases still : d.next slewUp slewDown slewCut = d.applied
  · have kept : d.counted d.applied = (d.episode, d.last) := by
      cases episode : d.episode <;> simp [Drp.counted, episode]
    rw [if_pos still, still, kept]
  · rw [if_neg still]
    cases episode : d.episode with
    | none => simp [Drp.counted, episode]
    | some e =>
      simp only [Drp.counted, episode, if_neg still]
      split <;> rfl

variable {d slewUp slewDown slewCut}

/-- A step that raises A is free of hold, keeps within T, and is at most the slew (R100). -/
theorem lt_next (rises : d.applied < d.next slewUp slewDown slewCut) :
    d.hold = false ∧ d.next slewUp slewDown slewCut ≤ d.target ∧
      d.next slewUp slewDown slewCut ≤ d.applied + slewUp := by
  unfold Drp.next at rises ⊢
  split at rises
  · next below =>
    rw [if_pos below]
    split at rises
    · exact absurd rises (lt_irrefl _)
    · next free => rw [if_neg free]; exact ⟨by simpa using free, min_le_left .., min_le_right ..⟩
  · omega

/-- A step that lowers A goes no further than T, and is at most the slew (R100). -/
theorem next_lt (falls : d.next slewUp slewDown slewCut < d.applied) :
    d.target ≤ d.next slewUp slewDown slewCut ∧
      d.applied - (if d.cut then slewCut else slewDown) ≤ d.next slewUp slewDown slewCut := by
  unfold Drp.next at falls ⊢
  split at falls
  · split at falls <;> omega
  · next above => rw [if_neg above]; exact ⟨le_max_left .., le_max_right ..⟩

/-- A step leaves an A and a T within Rt within it (R100, R101). -/
theorem next_le {rated : Nat} (applied : d.applied ≤ rated) (target : d.target ≤ rated) :
    d.next slewUp slewDown slewCut ≤ rated := by
  rcases Nat.lt_or_ge d.applied (d.next slewUp slewDown slewCut) with rises | still
  · exact (lt_next rises).2.1.trans target
  · exact still.trans applied

/-- A step with A and T at 0 leaves A there (R100). -/
theorem next_of_rest (applied : d.applied = 0) (target : d.target = 0) : d.next slewUp slewDown slewCut = 0 := by
  simp [Drp.next, applied, target]

end Drp

/-! ## The reference at A's code (R102, R109, R111) -/

/-- The A that a ramp step of the part goes to (R100). -/
def State.rampNext (s : State) : Nat := s.drp.next s.cfg.slewUp s.cfg.slewDown s.cfg.slewCut

/-- DRP's part of a ramp step (R99, R100, R104). -/
theorem State.rampMoved_drp (s : State) : s.rampMoved.drp =
    { s.drp with
      applied := s.rampNext
      episode := (s.drp.counted s.rampNext).1
      last := (s.drp.counted s.rampNext).2
      stepTimer := s.drp.stepTimer.reload 10 } := by
  simp only [State.rampMoved, State.handCodeIf_frame, Drp.step_eq, State.rampNext]

/-- LRG in DRP's part of a ramp step takes the code of an A that has moved (R102, R109). -/
theorem State.rampMoved_lrg (s : State) : s.rampMoved.lrg =
    if s.rampNext = s.drp.applied then s.lrg
    else { s.lrg with pending := some (codeOf s.rampNext s.cfg.rated) } := by
  unfold State.rampMoved
  rw [State.handCodeIf_lrg, Drp.step_eq]
  rfl

namespace State.DrawBounded

variable {s u : State}

theorem rampMoved (h : s.DrawBounded) : s.rampMoved.DrawBounded := by
  have drp := s.rampMoved_drp
  have psq : s.rampMoved.psq = s.psq := by simp [State.rampMoved]
  have cfl : s.rampMoved.cfl = s.cfl := by simp [State.rampMoved]
  have cfg : s.rampMoved.cfg = s.cfg := congrArg (fun c => c.image.getD .blank) cfl
  refine ⟨?_, ?_, fun opened => ?_, ?_, ?_⟩
  · rw [drp, cfg]; exact Drp.next_le h.applied h.target
  · rw [drp, cfg]; exact h.target
  · rw [psq] at opened
    obtain ⟨applied, target, episode, cut, hold⟩ := h.opened opened
    rw [drp]
    exact ⟨Drp.next_of_rest applied target, target, by simp [Drp.counted, episode], cut, hold⟩
  · rw [psq]; exact h.arcWarn
  · rw [psq, cfl]; exact h.ready

/-- All that the bounds read of a state; arc warn may change while the contactor is closed. -/
theorem congr (h : s.DrawBounded) (view : u.drawView = s.drawView)
    (arc : u.psq.arcWarn = s.psq.arcWarn ∨ s.psq.state.closed = true) : u.DrawBounded := by
  simp only [drawView, Prod.mk.injEq, Drp.mk.injEq] at view
  obtain ⟨loader, image, ⟨applied, target, -, hold, cut, episode, -, -⟩, -, state⟩ := view
  have cfg : u.cfg = s.cfg := congrArg (Option.getD · _) image
  refine ⟨?_, ?_, ?_, fun warn => ?_, ?_⟩
  · rw [applied, cfg]; exact h.applied
  · rw [target, cfg]; exact h.target
  · rw [state, applied, target, hold, cut, episode]; exact h.opened
  · rw [state]
    rcases arc with same | closed
    · exact h.arcWarn (same ▸ warn)
    · exact closed
  · rw [state, loader]; exact h.ready

end State.DrawBounded

namespace State.ReferenceFollows

variable {s u : State}

theorem congr (h : s.ReferenceFollows) (view : u.drawView = s.drawView)
    (arc : u.psq.arcWarn = s.psq.arcWarn ∨ s.psq.state.closed = true) : u.ReferenceFollows := by
  have bounded := h.bounded.congr view arc
  simp only [drawView, Prod.mk.injEq, Drp.mk.injEq] at view
  obtain ⟨-, image, ⟨applied, -⟩, lrg, -⟩ := view
  have cfg : u.cfg = s.cfg := congrArg (Option.getD · _) image
  refine ⟨?_, ?_, ?_, ?_, bounded⟩ <;> rw [lrg]
  · rw [applied, cfg]; exact h.code
  · exact h.current
  · exact h.frame
  · exact h.count

theorem recompose (h : s.ReferenceFollows) (cutArrives : Bool) : (s.recompose cutArrives).ReferenceFollows :=
  ⟨by simpa using h.code, by simpa using h.current, by simpa using h.frame, by simpa using h.count,
    h.bounded.recompose cutArrives⟩

/-- An event that hands LRG the code of the A that it leaves, where it moved A (R102). -/
theorem handed (h : s.ReferenceFollows) (bounded : u.DrawBounded) (cfg : u.cfg = s.cfg)
    (lrg : u.lrg = if u.drp.applied = s.drp.applied then s.lrg
      else { s.lrg with pending := some (codeOf u.drp.applied s.cfg.rated) }) : u.ReferenceFollows := by
  split at lrg
  · next still =>
    refine ⟨?_, ?_, ?_, ?_, bounded⟩ <;> rw [lrg]
    · rw [still, cfg]; exact h.code
    · exact h.current
    · exact h.frame
    · exact h.count
  · refine ⟨?_, ?_, ?_, ?_, bounded⟩ <;> rw [lrg]
    · rw [cfg]; rfl
    · exact h.current
    · exact h.frame
    · exact h.count

theorem enterPsq (h : s.ReferenceFollows) {st : PsqState}
    (leaves : s.isReady = true ∨ s.psq.state ≠ .stowed ∨ st = .stowed) : (s.enterPsq st).ReferenceFollows := by
  refine h.handed (h.bounded.enterPsq leaves) (by simp) ?_
  rw [State.enterPsq_lrg, State.enterPsq_applied]
  cases closed : st.closed with
  | true => simp
  | false => simp [eq_comm]

theorem rampMoved (h : s.ReferenceFollows) : s.rampMoved.ReferenceFollows :=
  h.handed h.bounded.rampMoved (by simp [State.rampMoved, State.cfg])
    (by rw [s.rampMoved_lrg, s.rampMoved_drp])

/-- Whatever redraws keeps the reference at A's code and A in its bounds. -/
theorem redrawn (h : s.ReferenceFollows) (draws : s.Redrawn u) : u.ReferenceFollows := by
  induction draws with
  | refl => exact h
  | same _ view terms before => exact before.congr view (.inl (Prod.mk.inj terms).1)
  | recompose _ view arc cutArrives before => exact (before.congr view arc).recompose cutArrives
  | @enter u v _ view arc st leaves _ before =>
    refine (before.congr view arc).enterPsq ?_
    simp only [drawView, Prod.mk.injEq] at view
    obtain ⟨loader, -, -, -, state⟩ := view
    rw [State.isReady, loader, state]
    exact leaves

/-- A counts from 0 with the contactor open, whatever image is loaded (R96, R108, R168). -/
theorem of_rest (lrg : u.lrg.current ≤ 1023 ∧ u.lrg.frame < 4 ∧ u.lrg.count < 256)
    (code : u.lrg.pending.getD u.lrg.current = 0) (stowed : u.psq.state = .stowed) (warn : u.psq.arcWarn = false)
    (rest : u.drp.applied = 0 ∧ u.drp.target = 0 ∧ u.drp.episode = none ∧ u.drp.cut = false ∧ u.drp.hold = false) :
    u.ReferenceFollows where
  code := by rw [code, rest.1, codeOf_zero]
  current := lrg.1
  frame := lrg.2.1
  count := lrg.2.2
  bounded :=
    { applied := by rw [rest.1]; exact Nat.zero_le _
      target := by rw [rest.2.1]; exact Nat.zero_le _
      opened := fun _ => rest
      arcWarn := fun raised => by rw [warn] at raised; cases raised
      ready := fun _ => stowed }

theorem of_atReset (drp : u.drp = .atReset) (lrg : u.lrg = .atReset) (stowed : u.psq.state = .stowed)
    (warn : u.psq.arcWarn = false) : u.ReferenceFollows :=
  of_rest (by rw [lrg]; decide) (by rw [lrg]; rfl) stowed warn (by rw [drp]; exact ⟨rfl, rfl, rfl, rfl, rfl⟩)

/-- A block is loaded before READY, with A at 0, so that a new Rt changes no code (R168). -/
theorem judgeBlock (h : s.ReferenceFollows) (loading : s.cfl.loader = .loading) (block : List Byte) :
    (s.judgeBlock block).ReferenceFollows := by
  have stowed : s.psq.state = .stowed := h.bounded.ready (by simp [loading])
  have opened : s.psq.state.closed = false := by rw [stowed]; rfl
  have rest := h.bounded.opened opened
  have quiet : s.psq.arcWarn = false := by
    cases warn : s.psq.arcWarn with
    | false => rfl
    | true => rw [h.bounded.arcWarn warn] at opened; cases opened
  have psq : (s.judgeBlock block).psq.state = s.psq.state ∧ (s.judgeBlock block).psq.arcWarn = s.psq.arcWarn := by
    simp only [State.judgeBlock, State.halt]
    (repeat' split) <;> exact ⟨rfl, rfl⟩
  refine of_rest ?_ ?_ (psq.1.trans stowed) (psq.2.trans quiet) (by simpa using rest)
  · simpa using ⟨h.current, h.frame, h.count⟩
  · simpa [rest.1] using h.code

/-- LRG's own counts, which keep the code that it holds or will take (R110, R111). -/
theorem withLrg (h : s.ReferenceFollows) {l : Lrg} (code : l.pending.getD l.current = s.lrg.pending.getD s.lrg.current)
    (current : l.current ≤ 1023) (frame : l.frame < 4) (count : l.count < 256) :
    { s with lrg := l }.ReferenceFollows :=
  ⟨code.trans h.code, current, frame, count,
    ⟨h.bounded.applied, h.bounded.target, h.bounded.opened, h.bounded.arcWarn, h.bounded.ready⟩⟩

/-- A group's start takes the code that is pending, or keeps the current one (R111). -/
theorem startGroup (h : s.ReferenceFollows) : { s with lrg := s.lrg.startGroup }.ReferenceFollows :=
  h.withLrg rfl (h.code.trans_le (codeOf_le h.bounded.applied)) (Nat.zero_lt_succ _) (Nat.zero_lt_succ _)

/-- The next count keeps both codes (R110). -/
theorem nextCount (h : s.ReferenceFollows) : { s with lrg := s.lrg.nextCount }.ReferenceFollows := by
  unfold Lrg.nextCount
  split
  · next within => exact h.withLrg rfl h.current h.frame (Nat.succ_lt_succ within)
  · exact h.withLrg rfl h.current (Nat.mod_lt _ (Nat.zero_lt_succ _)) (Nat.zero_lt_succ _)

/-- READY starts the ramp step timer from A at 0 (R99, R171). -/
theorem blocksBegun (h : s.ReferenceFollows) : s.blocksBegun.ReferenceFollows :=
  ⟨h.code, h.current, h.frame, h.count,
    ⟨h.bounded.applied, h.bounded.target, h.bounded.opened, h.bounded.arcWarn, fun unready => absurd rfl unready⟩⟩

/-- Whatever a command can do to the draw keeps A in its bounds and the reference at A's code. -/
theorem effectDraws (h : s.ReferenceFollows) {c : Instr} (draws : EffectDraws c s u) : u.ReferenceFollows := by
  cases draws with
  | redrawn draws => exact h.redrawn draws
  | ready _ draws => exact h.blocksBegun.redrawn draws
  | ramp _ draws => exact h.rampMoved.redrawn draws
  | restart raw => exact .of_atReset rfl rfl rfl rfl
  | load block loading => exact h.judgeBlock loading block
  | group => exact h.startGroup
  | count => exact h.nextCount

end State.ReferenceFollows

/-- Settles O55: the bounds and the code are kept by whatever redraws, by a ramp step, by LRG's own counts, by a load
before READY, and by the resets. -/
theorem appliedLimitStaysBounded : Obligations.AppliedLimitStaysBounded :=
  kept_of_effects (fun s h => h.congr (by simp [State.drawView]) (.inl (by simp)))
    (fun s q h => h.congr rfl (.inl rfl))
    (fun cause fresh pending _ => .of_atReset rfl rfl rfl rfl) (fun s raw _ _ => .of_atReset rfl rfl rfl rfl)
    (fun c s h _ occurs => (h.effectDraws (effectOf_draws occurs)).congr (by simp [State.drawView]) (.inl (by simp)))

end Sys2Proof.Machine
end

section
/-! PROOFS. T, the caps, cut in force and hold as the live terms give them: every step keeps them (R96 to R98, R105,
R169). -/

namespace Sys2Proof.Machine

/-! ## T and its terms (R96 to R98, R105) -/

/-- DRP's caps, T, cut in force and hold are those that the live terms give: what the law of T asks beside the rest
before READY. -/
structure State.DrawsByTerms (s : State) : Prop where
  caps : s.drp.caps = s.capsNow
  target : s.drp.target = s.capsNow.target s.sre.grant s.cfg.rated
  cut : s.drp.cut = s.cutNow
  hold : s.drp.hold = s.psq.arcWarn

/-- Whether the loader is READY is part of what the draw reads. -/
theorem State.isReady_of_drawView {s u : State} (view : u.drawView = s.drawView) : u.isReady = s.isReady :=
  congrArg (· == Loader.ready) (Prod.mk.inj view).1

namespace State.DrawsByTerms

variable {s u : State}

/-- All that the law of T reads: what DRP holds of T, and the live terms. -/
theorem of_terms (h : s.DrawsByTerms) (terms : u.termsView = s.termsView) (state : u.psq.state = s.psq.state)
    (cfg : u.cfg = s.cfg) (held : (u.drp.caps, u.drp.target, u.drp.cut, u.drp.hold) =
      (s.drp.caps, s.drp.target, s.drp.cut, s.drp.hold)) : u.DrawsByTerms := by
  simp only [termsView, Prod.mk.injEq] at terms held
  obtain ⟨arc, gapCut, grant, silence, collapse⟩ := terms
  obtain ⟨caps, target, cut, hold⟩ := held
  have capsNow : u.capsNow = s.capsNow := by
    have link : u.dlk.silence = s.dlk.silence := silence
    simp only [State.capsNow, arc, gapCut, grant, link, collapse, state]
  refine ⟨?_, ?_, ?_, ?_⟩
  · rw [caps, capsNow]; exact h.caps
  · rw [target, capsNow, grant, cfg]; exact h.target
  · rw [cut, State.cutNow, gapCut, state]; exact h.cut
  · rw [hold, arc]; exact h.hold

theorem congr (h : s.DrawsByTerms) (view : u.drawView = s.drawView) (terms : u.termsView = s.termsView) :
    u.DrawsByTerms := by
  simp only [drawView, Prod.mk.injEq, Drp.mk.injEq] at view
  obtain ⟨-, image, ⟨-, target, caps, hold, cut, -⟩, -, state⟩ := view
  exact h.of_terms terms state (congrArg (Option.getD · _) image) (by rw [caps, target, cut, hold])

/-- From READY on a recomposition takes everything from the live terms, whatever it finds (R98). -/
theorem recompose (ready : s.isReady = true) (cutArrives : Bool) : (s.recompose cutArrives).DrawsByTerms := by
  have drp := s.recompose_drp cutArrives
  rw [if_pos ready] at drp
  obtain ⟨caps, target, cut, hold, -, -⟩ := s.drp.recompose_terms s.capsNow
    (s.capsNow.target s.sre.grant s.cfg.rated) s.cutNow s.psq.arcWarn cutArrives
  have capsNow : (s.recompose cutArrives).capsNow = s.capsNow := by simp [State.capsNow]
  refine ⟨?_, ?_, ?_, ?_⟩
  · rw [drp, caps, capsNow]
  · rw [drp, target, capsNow]; simp
  · rw [drp, cut]; simp [State.cutNow]
  · rw [drp, hold]; simp

/-- The zeroing gives what the terms give outside ENGAGED and CUTTING (R97, R101). -/
theorem of_zero {d : Drp} (drp : u.drp = d.zero u.capsNow) (opened : u.psq.state.closed = false)
    (warn : u.psq.arcWarn = false) : u.DrawsByTerms := by
  refine ⟨?_, ?_, ?_, ?_⟩ <;> rw [drp]
  · rfl
  · rw [State.target_of_not_engaged (PsqState.ne_engaged_of_open opened)]; rfl
  · rw [State.cutNow_of_open opened]; rfl
  · rw [warn]; rfl

/-- From READY on an entry to a state takes everything from the live terms (R98, R101, R117). -/
theorem enterPsq (ready : s.isReady = true) (st : PsqState) : (s.enterPsq st).DrawsByTerms := by
  have drp := s.enterPsq_drp st
  set entered : State := { s with psq := s.psq.enter st s.cfg s.now } with hentered
  have capsNow : (s.enterPsq st).capsNow = entered.capsNow := by simp [State.capsNow, hentered]
  cases closed : st.closed with
  | true =>
    rw [if_pos closed] at drp
    have taken : (entered.recompose (st == .cutting)).DrawsByTerms := recompose (s := entered) ready _
    refine taken.of_terms ?_ ?_ ?_ (by rw [drp]) <;> simp [termsView, hentered, Dlk.core, State.cfg]
  | false =>
    rw [if_neg (by simp [closed]), ← capsNow] at drp
    have warn : (s.enterPsq st).psq.arcWarn = false := by
      rw [State.enterPsq_psq, Psq.enter]
      exact if_neg (fun cutting => by rw [cutting] at closed; cases closed)
    exact of_zero drp (by simpa using closed) warn

/-- Whatever redraws from READY on keeps the law of T. -/
theorem redrawn (h : s.DrawsByTerms) (draws : s.Redrawn u) (ready : u.isReady = true) : u.DrawsByTerms := by
  induction draws with
  | refl => exact h
  | same _ view terms before =>
    exact (before ((State.isReady_of_drawView view).symm.trans ready)).congr view terms
  | recompose _ _ _ cutArrives _ => exact recompose (by simpa using ready) cutArrives
  | enter _ _ _ _ _ _ => exact enterPsq (by simpa using ready) _

/-- A ramp step leaves T, the caps, cut in force and hold (R100). -/
theorem rampMoved (h : s.DrawsByTerms) : s.rampMoved.DrawsByTerms := by
  have drp := s.rampMoved_drp
  refine h.of_terms ?_ ?_ ?_ (by rw [drp]) <;> simp [State.rampMoved, termsView, State.cfg]

/-- Every other block at its reset value, and PSQ in STOWED, give the reset values of DRP (R96). -/
theorem of_atReset (drp : u.drp = .atReset) (state : u.psq.state = .stowed) (warn : u.psq.arcWarn = false)
    (sgm : u.sgm = .atReset) (collapse : u.msu.collapse = true) (silence : u.dlk.silence = true) :
    u.DrawsByTerms := by
  have capsNow : u.capsNow = Drp.atReset.caps := by
    simp [State.capsNow, state, warn, sgm, collapse, silence]
    rfl
  refine of_zero (d := .atReset) ?_ (by rw [state]; rfl) warn
  rw [drp, capsNow]
  rfl

/-- A part at rest has the reset values of every block that T reads (R169). -/
theorem of_atRest (rest : s.AtRest) : s.DrawsByTerms :=
  of_atReset rest.drp rest.stowed rest.arcMonitor.2.2 rest.sgm (by rw [rest.msu]; rfl) rest.silent.1

/-- Whatever a command makes of the draw keeps the law of T, from READY on. -/
theorem effectDraws (h : s.DrawsByTerms) {c : Instr} (draws : EffectDraws c s u) (ready : u.isReady = true) :
    u.DrawsByTerms := by
  cases draws with
  | redrawn draws => exact h.redrawn draws ready
  | ready _ draws => exact (h.of_terms (u := s.blocksBegun) rfl rfl rfl rfl).redrawn draws ready
  | ramp _ draws => exact h.rampMoved.redrawn draws ready
  | restart raw => exact of_atReset rfl rfl rfl rfl rfl rfl
  | load block loading =>
    have unready : (s.judgeBlock block).cfl.loader ≠ .ready := by
      simp only [State.judgeBlock, State.halt]
      (repeat' split) <;> simp [loading]
    exact absurd (by simpa [State.isReady] using ready) unready
  | group => exact h.of_terms rfl rfl rfl rfl
  | count => exact h.of_terms rfl rfl rfl rfl

end State.DrawsByTerms

namespace State.TermsAgree

variable {s : State}

theorem drawsByTerms (h : s.TermsAgree) : s.DrawsByTerms := ⟨h.caps, h.target, h.cut, h.hold⟩

theorem of_drawsByTerms (quiet : s.QuietUnlessReady) (draws : s.DrawsByTerms) : s.TermsAgree :=
  ⟨quiet, draws.caps, draws.target, draws.cut, draws.hold⟩

theorem of_atRest (rest : s.AtRest) : s.TermsAgree := of_drawsByTerms (fun _ => rest) (.of_atRest rest)

/-- Every event keeps the law of T: before READY by the rest, from READY on by what it makes of the draw. -/
theorem effect (h : s.TermsAgree) {c : Instr} (occurs : occursAt c s = true) : (effectOf c s).TermsAgree := by
  have quiet := effectOf_quietUnlessReady h.quiet occurs
  by_cases ready : (effectOf c s).cfl.loader = .ready
  · exact of_drawsByTerms quiet (h.drawsByTerms.effectDraws (effectOf_draws occurs) (by simp [State.isReady, ready]))
  · exact of_atRest (quiet ready)

end State.TermsAgree

/-- Settles O56: the terms agree with what DRP holds after every recomposition and zeroing, and at rest. -/
theorem targetFollowsItsTerms : Obligations.TargetFollowsItsTerms := by
  refine kept_of_effects (fun s h => ?_) (fun s q h => ?_)
    (fun cause fresh pending _ => .of_atRest (.heldInReset cause fresh pending))
    (fun s raw _ _ => .of_atRest (.atResetEnd s raw)) (fun c s h _ occurs => ?_)
  · exact .of_drawsByTerms (quietUnlessReady_idle h.quiet)
      (h.drawsByTerms.congr (by simp [State.drawView]) (by simp [State.termsView]))
  · exact .of_drawsByTerms (fun unready => { h.quiet unready with }) (h.drawsByTerms.congr rfl rfl)
  · exact .of_drawsByTerms (quietUnlessReady_settle h.quiet occurs)
      ((h.effect occurs).drawsByTerms.congr (by simp [State.drawView]) (by simp [State.termsView, Dlk.core]))

end Sys2Proof.Machine
end

section
/-! PROOFS. A ramp step, and what moves A (R100 to R102, R104, R109, R122, R141). -/

namespace Sys2Proof.Machine

/-! ## A ramp step (R100 to R102, R122, R141) -/

/-- DRP's part of a ramp step as one update (R99, R100, R102, R104). -/
theorem State.rampMoved_eq (s : State) : s.rampMoved = { s with
    drp := { s.drp with
      applied := s.rampNext
      episode := (s.drp.counted s.rampNext).1
      last := (s.drp.counted s.rampNext).2
      stepTimer := s.drp.stepTimer.reload 10 }
    lrg := if s.rampNext = s.drp.applied then s.lrg
      else { s.lrg with pending := some (codeOf s.rampNext s.cfg.rated) } } := by
  have handed : s.rampMoved = { s with drp := s.rampMoved.drp, lrg := s.rampMoved.lrg } := by
    unfold State.rampMoved State.handCodeIf
    split <;> rfl
  rw [handed, State.rampMoved_drp, State.rampMoved_lrg]

/-- The cut condition (R141): in APPROACH, the time that remains to the gap is within the cut time of A. -/
def State.CutMet (s : State) : Prop :=
  s.sgm.phase = .approach ∧ ∃ c : Countdown, s.sgm.countdown = some c ∧ c.remaining s.now ≤ s.cfg.cutTime s.drp.applied

/-- Where the cut condition is met the gap cut starts (R141). -/
theorem State.judgeGap_of_met {s : State} (met : s.CutMet) : s.judgeGap = s.startGapCut := by
  obtain ⟨approach, c, countdown, within⟩ := met
  simp only [State.judgeGap, countdown, approach, within, and_self, if_true]

/-- Where it is not, the judgement changes nothing (R141). -/
theorem State.judgeGap_of_not_met {s : State} (unmet : ¬s.CutMet) : s.judgeGap = s := by
  unfold State.judgeGap
  split
  · rfl
  · next c countdown => exact if_neg fun met => unmet ⟨met.1, c, countdown, met.2⟩

/-- The judgement of the gap leaves A (R141). -/
@[simp] theorem State.judgeGap_applied (s : State) : s.judgeGap.drp.applied = s.drp.applied := by
  by_cases met : s.CutMet
  · rw [State.judgeGap_of_met met, State.startGapCut]; simp
  · rw [State.judgeGap_of_not_met met]

/-- A is already at 0 where "A at zero" is handed on, so that the entry to DISCHARGE moves neither A nor the reference
(R101, R122). -/
theorem State.handZero_keeps (s : State) : s.handZero.drp.applied = s.drp.applied ∧ s.handZero.lrg = s.lrg := by
  unfold State.handZero
  split
  · next zero => exact ⟨by simp [zero.2, PsqState.closed], by simp [State.enterPsq_lrg, zero.2]⟩
  · exact ⟨rfl, rfl⟩

/-- A and the reference after a whole ramp step are those of DRP's part. -/
theorem State.rampStep_keeps (s : State) :
    s.rampStep.drp.applied = s.rampNext ∧ s.rampStep.lrg = s.rampMoved.lrg := by
  obtain ⟨applied, lrg⟩ := s.rampMoved.judgeGap.handZero_keeps
  refine ⟨applied.trans ?_, lrg.trans (by simp)⟩
  rw [State.judgeGap_applied, State.rampMoved_drp]

/-- Settles O30: DRP's part as one update, SGM's judgement by the cut condition, and PSQ's answer to "A at zero". -/
theorem rampStep : Obligations.RampStep := by
  intro s due running timer come a t next counted moved met
  have occurs : occursAt .rampStep s = true := (Timer.due_iff ..).mpr ⟨due, timer, come⟩
  have counts : s.drp.counted s.rampNext = counted := by
    simp only [Drp.counted, counted]
    cases s.drp.episode <;> rfl
  have isMoved : s.rampMoved = moved := by
    rw [State.rampMoved_eq, counts, timer]
    rfl
  have answers : exec .rampStep s = .next s.rampMoved.judgeGap.handZero.settle := exec_of_occurs rfl running occurs
  have psq : moved.judgeGap.psq.state = s.psq.state := by simp [moved]
  have applied : moved.judgeGap.drp.applied = next := moved.judgeGap_applied
  rw [answers, isMoved]
  refine ⟨moved.judgeGap, fun holds => State.judgeGap_of_met (s := moved) holds,
    fun fails => State.judgeGap_of_not_met (s := moved) fails, fun other => ?_, fun cutting zero => ?_⟩
  · have stays : ¬(moved.judgeGap.psq.state = .cutting ∧ moved.judgeGap.drp.applied = 0) := by
      rw [psq, applied, not_and_or]
      exact other
    rw [State.handZero, if_neg stays]
  · rw [State.handZero, if_pos ⟨psq.trans cutting, applied.trans zero⟩]

/-! ## What moves A (R100 to R102) -/

/-- What redraws leaves A, or opens the contactor and hands the code of 0 on (R101, R102). -/
theorem State.Redrawn.applied {s u : State} (draws : s.Redrawn u) : u.drp.applied = s.drp.applied ∨
    (u.drp.applied = 0 ∧ u.psq.state.closed = false ∧ u.lrg.pending = some 0) := by
  have reads {v w : State} (view : v.drawView = w.drawView) :
      v.drp.applied = w.drp.applied ∧ v.lrg = w.lrg ∧ v.psq.state = w.psq.state := by
    simp only [State.drawView, Prod.mk.injEq, Drp.mk.injEq] at view
    exact ⟨view.2.2.1.1, view.2.2.2⟩
  induction draws with
  | refl => exact .inl rfl
  | same _ view _ before =>
    obtain ⟨applied, lrg, state⟩ := reads view
    rw [applied, lrg, state]; exact before
  | recompose _ view _ cutArrives before =>
    obtain ⟨applied, lrg, state⟩ := reads view
    simpa [applied, lrg, state] using before
  | @enter u v _ view _ st _ closes before =>
    obtain ⟨applied, lrg, -⟩ := reads view
    rw [State.enterPsq_applied, State.enterPsq_lrg, State.enterPsq_psq, Psq.enter_state, codeOf_zero]
    cases closed : st.closed with
    | true => exact .inl (closes closed)
    | false =>
      rw [if_neg Bool.false_ne_true]
      by_cases zero : v.drp.applied = 0
      · rw [if_pos (.inr zero), lrg]
        rw [← applied, zero] at before
        exact before.imp id fun ⟨_, _, pending⟩ => ⟨rfl, rfl, pending⟩
      · rw [if_neg (by simp [zero])]
        exact .inr ⟨rfl, rfl, rfl⟩

/-- Everything that a command can do to A (R100 to R102, R170). -/
theorem exec_applied {c : Instr} {s t : State} (hx : exec c s = .next t) :
    t.drp.applied = s.drp.applied ∨ (resets c = true ∧ t.drp.applied = 0) ∨
    (t.drp.applied = 0 ∧ t.psq.state.closed = false ∧ t.lrg.pending = some 0) ∨
    (c = .rampStep ∧ t.drp.applied = s.rampNext ∧ t.lrg = s.rampMoved.lrg) := by
  rcases exec_cases hx with rfl | reset | ⟨-, -, occurs, rfl⟩
  · exact .inl rfl
  · cases c <;> simp only [holdsReset, Bool.false_eq_true] at reset
    case powerOn => cases hx; exact .inr (.inl ⟨rfl, rfl⟩)
    case pinReset => cases hx; exact .inr (.inl ⟨rfl, rfl⟩)
    case resetEnd raw =>
      simp only [exec, execResetEnd] at hx
      split at hx <;> cases hx
      · exact .inr (.inl ⟨rfl, rfl⟩)
      · exact .inl rfl
  · have settled (u : State) : u.settle.drp = u.drp ∧ u.settle.psq = u.psq ∧ u.settle.lrg = u.lrg := by simp
    obtain ⟨drp, psq, lrg⟩ := settled (effectOf c s)
    rw [drp, psq, lrg]
    have draws := effectOf_draws occurs
    generalize effect : effectOf c s = u at draws
    cases draws with
    | redrawn draws => exact draws.applied.imp id fun zeroed => .inr (.inl zeroed)
    | ready _ draws => exact draws.applied.imp id fun zeroed => .inr (.inl zeroed)
    | ramp isRamp =>
      subst isRamp effect
      exact .inr (.inr (.inr ⟨rfl, s.rampStep_keeps⟩))
    | restart raw isRestart => subst isRestart; exact .inr (.inl ⟨rfl, rfl⟩)
    | load block => exact .inl (by simp)
    | group => exact .inl rfl
    | count => exact .inl rfl

/-- Settles O31: A stays, is reset, is zeroed, or goes where a ramp step takes it. -/
theorem appliedRisesOnlyAtRampSteps : Obligations.AppliedRisesOnlyAtRampSteps := by
  intro c s t hx
  rcases exec_applied hx with same | ⟨reset, zero⟩ | ⟨zero, opened, pending⟩ | ⟨isRamp, applied, lrg⟩
  · rw [same]
    exact ⟨fun rises => absurd rises (lt_irrefl _), fun falls => absurd falls (lt_irrefl _),
      fun moved => absurd rfl moved⟩
  · rw [zero]
    exact ⟨fun rises => absurd rises (Nat.not_lt_zero _), fun _ => .inr ⟨rfl, .inr reset⟩,
      fun _ other => by rw [reset] at other; cases other⟩
  · rw [zero, codeOf_zero]
    exact ⟨fun rises => absurd rises (Nat.not_lt_zero _), fun _ => .inr ⟨rfl, .inl opened⟩, fun _ _ => pending⟩
  · rw [applied]
    refine ⟨fun rises => ⟨isRamp, Drp.lt_next rises⟩, fun falls => .inl ⟨isRamp, Drp.next_lt falls⟩, fun moved _ => ?_⟩
    rw [lrg, State.rampMoved_lrg, if_neg moved]

end Sys2Proof.Machine
end

section
/-! PROOFS. Recompositions and episodes, and entries to a sequencer state (R97, R98, R101, R103 to R106, R114, R115,
R117, R127). -/

namespace Sys2Proof.Machine

/-! ## Recompositions drive the episode (R97, R98, R103 to R106) -/

/-- A recomposition that finds no episode and an A other than T: a rise, held where arc warn stands, or a fall (R103,
R105). -/
def freshEpisode (applied target : Nat) (hold cut : Bool) (last : LastEnding) : Option Episode × LastEnding :=
  if applied < target then
    (some { dir := .rising, target := target, steps := 0, held := hold },
      if hold then { ending := .held, steps := 0 } else last)
  else (some { dir := if cut then .cutting else .falling, target := target, steps := 0, held := false }, last)

variable {applied target : Nat} {hold cut : Bool}

theorem startEpisode_of_eq (same : target = applied) (last : LastEnding) :
    startEpisode applied target hold cut last = (none, last) := if_pos same

theorem startEpisode_of_ne (differs : target ≠ applied) (last : LastEnding) :
    startEpisode applied target hold cut last = freshEpisode applied target hold cut last := if_neg differs

/-- Hold finds a new rise held already, and leaves a fall (R105). -/
theorem holdEpisode_fresh (becomesSet : Bool) (last : LastEnding) :
    holdEpisode hold becomesSet (freshEpisode applied target hold cut last) =
      freshEpisode applied target hold cut last := by
  unfold freshEpisode
  split
  · cases hold <;> simp [holdEpisode]
  · cases cut <;> rfl

/-- Hold leaves an episode that does not rise (R105). -/
theorem holdEpisode_of_not_rising {e : Episode} (other : e.dir ≠ .rising) (becomesSet : Bool) (last : LastEnding) :
    holdEpisode hold becomesSet (some e, last) = (some e, last) := by
  simp [holdEpisode, other]

/-- A recomposition that brings T to A completes the episode (R104). -/
theorem moveEpisode_of_eq (same : target = applied) (cutEnds : Bool) (e : Episode) (last : LastEnding) :
    moveEpisode applied target hold cut cutEnds e last = (none, { ending := .completed, steps := e.steps }) :=
  if_pos same

/-- A recomposition that brings T to the other side of A retargets to a new episode (R104). -/
theorem moveEpisode_of_turned {e : Episode} (differs : target ≠ applied)
    (turned : e.dir.sameSide applied target = false) (cutEnds : Bool) (last : LastEnding) :
    moveEpisode applied target hold cut cutEnds e last =
      freshEpisode applied target hold cut { ending := .retargeted, steps := e.steps } := by
  rw [moveEpisode, if_neg differs, turned, if_neg Bool.false_ne_true, startEpisode_of_ne differs]

/-- An episode whose T stays on its side of A goes on to the new T (R104). -/
theorem moveEpisode_of_sameSide {e : Episode} (differs : target ≠ applied)
    (side : e.dir.sameSide applied target = true) {cutEnds : Bool} (goesOn : (cutEnds && e.dir == .cutting) = false)
    (last : LastEnding) :
    moveEpisode applied target hold cut cutEnds e last =
      (some { e with target := target },
        if target = e.target then last else { ending := .retargeted, steps := e.steps }) := by
  rw [moveEpisode, if_neg differs, if_pos side, goesOn, if_neg Bool.false_ne_true]
  split
  · next same => rw [same]
  · rfl

/-- A CUTTING episode whose T stays below A at the cut's end becomes FALLING (R104). -/
theorem moveEpisode_of_cutEnds {e : Episode} (differs : target ≠ applied)
    (side : e.dir.sameSide applied target = true) (cutting : e.dir = .cutting) (last : LastEnding) :
    moveEpisode applied target hold cut true e last =
      (some { e with dir := .falling, target := target }, { ending := .retargeted, steps := e.steps }) := by
  rw [moveEpisode, if_neg differs, if_pos side, if_pos (by rw [cutting]; rfl)]

/-- Whether T lies on the side of A that a rise goes to (R104). -/
theorem Direction.sameSide_rising {d : Direction} (rising : d = .rising) :
    d.sameSide applied target = decide (applied < target) := by rw [rising]; rfl

/-- Whether T lies on the side of A that a fall goes to (R104). -/
theorem Direction.sameSide_falling {d : Direction} (other : d ≠ .rising) :
    d.sameSide applied target = decide (target < applied) := by
  cases d
  case rising => exact absurd rfl other
  all_goals rfl

/-- A recomposition of DRP's episode that is no cut's arrival: the episode's own move, then hold (R103 to R105). -/
def Drp.moved (d : Drp) (target : Nat) (hold cut : Bool) : Option Episode × LastEnding :=
  holdEpisode hold (hold && !d.hold) (match d.episode with
    | none => startEpisode d.applied target hold cut d.last
    | some e => moveEpisode d.applied target hold cut (d.cut && !cut) e d.last)

section

variable {d : Drp} {e : Episode}

/-- What a recomposition without a cut's arrival leaves of the episode (R103 to R106). -/
theorem Drp.recompose_moved {arrives : Bool} (plain : cut = false ∨ (d.cut = true ∧ arrives = false)) (caps : Caps) :
    ((d.recompose caps target cut hold arrives).episode, (d.recompose caps target cut hold arrives).last) =
      d.moved target hold cut := by
  have arrival : (cut && !d.cut) = false := by rcases plain with rfl | ⟨stands, -⟩ <;> simp [*]
  have standing : (cut && arrives) = false := by rcases plain with rfl | ⟨-, still⟩ <;> simp [*]
  rw [Drp.recompose, arrival, standing, if_neg Bool.false_ne_true, if_neg Bool.false_ne_true]
  rfl

/-- A cut's arrival ends the episode of an A above 0 and starts a CUTTING one (R106). -/
theorem Drp.recompose_arrival (arrival : d.cut = false) (caps : Caps) (arrives : Bool) :
    (d.applied = 0 → (d.recompose caps target true hold arrives).episode = d.episode ∧
      (d.recompose caps target true hold arrives).last = d.last) ∧
    (0 < d.applied → (d.recompose caps target true hold arrives).episode =
        some { dir := .cutting, target := target, steps := 0, held := false } ∧
      (d.recompose caps target true hold arrives).last = { ending := .cut, steps := stepsOf d.episode }) := by
  rw [Drp.recompose, if_pos (by rw [arrival]; rfl)]
  refine ⟨fun zero => ?_, fun positive => ?_⟩
  · rw [if_pos zero]; exact ⟨rfl, rfl⟩
  · rw [if_neg positive.ne']; exact ⟨rfl, rfl⟩

/-- The start of another cut while one is in force leaves the episode (R106). -/
theorem Drp.recompose_standing (stands : d.cut = true) (caps : Caps) :
    (d.recompose caps target true hold true).episode = d.episode ∧
      (d.recompose caps target true hold true).last = d.last := by
  rw [Drp.recompose, if_neg (by simp [stands]), if_pos (by rfl)]
  exact ⟨rfl, rfl⟩

/-- A rise whose T stays above A is held where hold becomes set and it was not, with HELD recorded, and let go where
hold is clear (R104, R105). -/
theorem Drp.moved_rising (episode : d.episode = some e) (rising : e.dir = .rising) (above : d.applied < target) :
    (hold = true → d.hold = false → e.held = false → d.moved target hold cut =
      (some { e with target := target, held := true }, { ending := .held, steps := e.steps })) ∧
    (hold = false ∨ d.hold = true ∨ e.held = true → d.moved target hold cut =
      (some { e with target := target, held := hold && e.held },
        if target = e.target then d.last else { ending := .retargeted, steps := e.steps })) := by
  have goes : moveEpisode d.applied target hold cut (d.cut && !cut) e d.last = _ :=
    moveEpisode_of_sameSide above.ne' (by rw [Direction.sameSide_rising rising]; simpa using above) (by simp [rising]) _
  simp only [Drp.moved, episode, goes, holdEpisode, rising, beq_self_eq_true, if_true]
  refine ⟨fun set was free => ?_, fun kept => ?_⟩
  · simp [set, was, free]
  · rcases kept with clear | stood | held
    · simp [clear]
    · cases hold <;> simp [stood]
    · cases hold <;> simp [held]

/-- A fall whose T stays below A goes on to the new T, and a cut's end makes a CUTTING one FALLING (R104). -/
theorem Drp.moved_falling (episode : d.episode = some e) (other : e.dir ≠ .rising) (below : target < d.applied) :
    (e.dir = .cutting → cut = false → d.cut = true → d.moved target hold cut =
      (some { e with dir := .falling, target := target }, { ending := .retargeted, steps := e.steps })) ∧
    (e.dir = .falling ∨ cut = true ∨ d.cut = false → d.moved target hold cut =
      (some { e with target := target },
        if target = e.target then d.last else { ending := .retargeted, steps := e.steps })) := by
  have side : e.dir.sameSide d.applied target = true := by
    rw [Direction.sameSide_falling other]; simpa using below
  refine ⟨fun cutting ended stood => ?_, fun goesOn => ?_⟩
  · rw [Drp.moved, episode]
    simp only [stood, ended, Bool.not_false, Bool.and_self, moveEpisode_of_cutEnds below.ne side cutting]
    exact holdEpisode_of_not_rising (by simp) ..
  · have still : (d.cut && !cut && e.dir == .cutting) = false := by
      rcases goesOn with falling | stands | free <;> simp [*]
    rw [Drp.moved, episode]
    simp only [moveEpisode_of_sameSide below.ne side still]
    exact holdEpisode_of_not_rising (e := { e with target := target }) other ..

/-- An episode whose T comes to the other side of A gives way to a new one (R104). -/
theorem Drp.moved_turned (episode : d.episode = some e) (differs : target ≠ d.applied)
    (turned : e.dir.sameSide d.applied target = false) : d.moved target hold cut =
      freshEpisode d.applied target hold cut { ending := .retargeted, steps := e.steps } := by
  rw [Drp.moved, episode]
  simp only [moveEpisode_of_turned differs turned, holdEpisode_fresh]

/-- An episode whose T comes to A is completed (R104). -/
theorem Drp.moved_completed (episode : d.episode = some e) (same : target = d.applied) :
    d.moved target hold cut = (none, { ending := .completed, steps := e.steps }) := by
  rw [Drp.moved, episode]
  simp only [moveEpisode_of_eq same, holdEpisode]

/-- Without an episode a T at A starts none, and any other T starts one (R103). -/
theorem Drp.moved_none (episode : d.episode = none) :
    (target = d.applied → d.moved target hold cut = (none, d.last)) ∧
    (target ≠ d.applied → d.moved target hold cut = freshEpisode d.applied target hold cut d.last) := by
  rw [Drp.moved, episode]
  refine ⟨fun same => ?_, fun differs => ?_⟩
  · simp only [startEpisode_of_eq same, holdEpisode]
  · simp only [startEpisode_of_ne differs, holdEpisode_fresh]

end

/-! ## T as the least of its terms (R97) -/

theorem Cap.value_zeroWhile (stands : Bool) (rated : Nat) :
    (Cap.zeroWhile stands).value rated = if stands then 0 else rated := by
  cases stands <;> rfl

/-- T is the least of the grant and the five caps (R97). -/
theorem State.target_eq_foldl (s : State) (rated : Nat) : s.capsNow.target s.sre.grant rated =
    [s.sre.grant, if s.psq.state = .engaged then rated else 0, if s.sgm.cut then 0 else rated,
      if s.psq.arcWarn then s.sre.grant / 2 else rated, if s.dlk.silence then 0 else rated,
      if s.msu.collapse then 0 else rated].foldl min s.sre.grant := by
  have sequencer : (Cap.zeroWhile (s.psq.state != .engaged)).value rated =
      if s.psq.state = .engaged then rated else 0 := by
    rw [Cap.value_zeroWhile]
    by_cases engaged : s.psq.state = .engaged <;> simp [engaged]
  have arc : (if s.psq.arcWarn then Cap.limit (s.sre.grant / 2) else .rated).value rated =
      if s.psq.arcWarn then s.sre.grant / 2 else rated := by
    split <;> rfl
  simp only [Caps.target, State.capsNow, sequencer, arc, Cap.value_zeroWhile, List.foldl_cons, List.foldl_nil,
    min_self, min_assoc]

/-- Settles O32: T from its terms, and the episode by a cut's arrival or by the side of A that T lies on. -/
theorem recompositionsDriveEpisodes : Obligations.RecompositionsDriveEpisodes := by
  intro s arrives ready d r a rt cut hold t steps fresh
  have running : s.isReady = true := by simp [State.isReady, ready]
  have isTarget : s.capsNow.target s.sre.grant s.cfg.rated = t := s.target_eq_foldl s.cfg.rated
  have isCut : s.cutNow = cut := rfl
  have drp : r = d.recompose s.capsNow t cut hold arrives := by
    rw [← isTarget, ← isCut]
    exact (s.recompose_drp arrives).trans (if_pos running)
  have isFresh (ending : LastEnding) : freshEpisode a t hold cut ending = fresh ending := rfl
  obtain ⟨-, target, cuts, holds, applied, timer⟩ := d.recompose_terms s.capsNow t cut hold arrives
  rw [← drp] at target cuts holds applied timer
  have onlyDrp : s.recompose arrives = { s with drp := r } := by
    simp only [r, State.recompose, running, if_true]
  refine ⟨onlyDrp, applied, target, cuts, holds, timer, fun inForce free => ?_, fun inForce stands again => ?_,
    fun plain => ?_⟩
  · rw [drp, inForce]
    exact Drp.recompose_arrival free _ arrives
  · rw [drp, inForce, again]
    exact Drp.recompose_standing stands _
  · have moved : (r.episode, r.last) = d.moved t hold cut := by rw [drp]; exact Drp.recompose_moved plain _
    have parts {episode : Option Episode} {last : LastEnding} (is : d.moved t hold cut = (episode, last)) :
        r.episode = episode ∧ r.last = last := Prod.mk.inj (moved.trans is)
    refine ⟨fun none same => ?_, fun none differs => ?_, fun e some => ⟨fun same => ?_, fun rising below => ?_,
      fun other above => ?_, fun rising above => ⟨fun set was free => ?_, fun kept => ?_⟩,
      fun other below => ⟨fun cutting ended stood => ?_, fun goesOn => ?_⟩⟩⟩
    · exact parts ((Drp.moved_none none).1 same)
    · rw [moved, (Drp.moved_none none).2 differs, isFresh]
    · exact parts (Drp.moved_completed some same)
    · rw [moved, Drp.moved_turned some below.ne, isFresh]
      rw [Direction.sameSide_rising rising]
      simpa using below.le
    · rw [moved, Drp.moved_turned some above.ne', isFresh]
      rw [Direction.sameSide_falling other]
      simpa using above.le
    · exact parts ((Drp.moved_rising some rising above).1 set was free)
    · exact parts ((Drp.moved_rising some rising above).2 kept)
    · exact parts ((Drp.moved_falling some other below).1 cutting ended stood)
    · exact parts ((Drp.moved_falling some other below).2 goesOn)

/-! ## Entries to a sequencer state (R101, R106, R114, R115, R117, R127) -/

/-- An entry to a state as one update: PSQ, DRP and LRG by the contactor, BCH, and a STATUS trigger (R117). -/
theorem State.enterPsq_eq (s : State) (st : PsqState) : s.enterPsq st = { s with
    psq := (s.enterPsq st).psq, drp := (s.enterPsq st).drp, lrg := (s.enterPsq st).lrg, bch := (s.enterPsq st).bch,
    dlk := (s.enterPsq st).dlk } := by
  simp only [State.enterPsq, State.triggerStatusIf, State.refreshChopper, State.zeroDraw, State.handCodeIf,
    State.recompose]
  (repeat' split) <;> rfl

/-- The contactor is closed in ENGAGED and CUTTING (R114). -/
theorem PsqState.closed_iff (st : PsqState) : st.closed = true ↔ st = .engaged ∨ st = .cutting := by
  cases st <;> simp [PsqState.closed]

/-- PSQ's entry by R114's and R115's tables, state by state. -/
theorem Psq.enter_eq (p : Psq) (st : PsqState) (img : Image) (now : Tick) :
    let timed (ms : Nat) : Timer := some (now + BitVec.ofNat 32 ms)
    p.enter st img now = { p with
      state := st,
      contactor := decide (st = .engaged ∨ st = .cutting), precharge := decide (st = .precharge),
      discharge := decide (st = .discharge),
      actuator := match st with
        | .stowed => .idle
        | .retracting | .stuck => .lower
        | _ => .raise,
      stateTimer := match st with
        | .raising => timed img.raiseTimeout
        | .precharge => timed img.prechargeTime
        | .dropout => timed img.reacquireTime
        | .gapCoast => timed img.coastMaximum
        | .discharge => timed img.dischargeTime
        | .retracting => timed img.retractTimeout
        | _ => none,
      retry := if st = .engaged ∨ st = .stowed then 0 else p.retry,
      rawRun := if st = .cutting then p.rawRun else 0,
      arcWarn := if st = .cutting then p.arcWarn else false,
      buckets := if st = .engaged then [0, 0, 0, 0, 0, 0, 0, 0] else p.buckets } := by
  cases st <;> rfl

/-- The zeroing's ending: CUT, unless there was neither an episode nor an A to end (R101, R106). -/
theorem Drp.zero_eq (d : Drp) (caps : Caps) : d.zero caps =
    { d with
      applied := 0, target := 0, hold := false, cut := false, episode := none, caps := caps,
      last := if d.episode = none ∧ d.applied = 0 then d.last
        else { ending := .cut, steps := (d.episode.map Episode.steps).getD 0 } } := by
  by_cases nothing : d.episode = none ∧ d.applied = 0
  · simp [Drp.zero, nothing]
  · have something : (d.episode.isSome || d.applied != 0) = true := by
      rcases not_and_or.mp nothing with running | drawing
      · rw [Option.isSome_iff_ne_none.mpr running, Bool.true_or]
      · rw [bne_iff_ne.mpr drawing, Bool.or_true]
    rw [if_neg nothing, Drp.zero, something, if_pos rfl]
    rfl

/-- Settles O36: PSQ by its tables, DRP and LRG by the contactor, BCH and DLK by their own rules. -/
theorem sequencerEntries : Obligations.SequencerEntries := by
  intro s st u timed closed
  have psq : u.psq = s.psq.enter st s.cfg s.now := s.enterPsq_psq st
  have drp := s.enterPsq_drp st
  refine ⟨s.enterPsq_eq st, psq.trans (s.psq.enter_eq st s.cfg s.now), s.enterPsq_dlk st, ?_, fun closes => ?_,
    fun opens => ?_⟩
  · rw [psq, State.refreshChopper_bch]
    exact s.enterPsq_bch st
  · have isClosed := (PsqState.closed_iff st).mpr closes
    rw [if_pos isClosed] at drp
    exact ⟨(s.enterPsq_lrg st).trans (if_pos (.inl isClosed)), by rw [psq]; exact drp⟩
  · have isOpen := mt (PsqState.closed_iff st).mp opens
    rw [if_neg isOpen, Drp.zero_eq] at drp
    have capsNow : u.capsNow = { s with psq := s.psq.enter st s.cfg s.now }.capsNow := by simp [u, State.capsNow]
    refine ⟨?_, by rw [capsNow]; exact drp⟩
    have lrg := s.enterPsq_lrg st
    simpa [isOpen] using lrg

end Sys2Proof.Machine
end

section
/-! PROOFS. The limit reference: codes, and the counts of a group (R108 to R111). -/

namespace Sys2Proof.Machine

/-! ## The rounding of a code (R109) -/

/-- The code is A's part of Rt in 1,023 parts to the nearest, halves up (R109). -/
theorem codeOf_rounds {rated : Nat} (positive : 0 < rated) (applied : Nat) :
    2 * codeOf applied rated * rated ≤ 2 * applied * 1023 + rated ∧
    2 * applied * 1023 + rated < 2 * (codeOf applied rated + 1) * rated := by
  have division := Nat.div_add_mod (applied * 1023 + rated / 2) rated
  have remainder := Nat.mod_lt (applied * 1023 + rated / 2) positive
  rw [← codeOf, Nat.mul_comm] at division
  rw [Nat.mul_assoc 2 (codeOf applied rated) rated, Nat.mul_assoc 2 (codeOf applied rated + 1) rated, Nat.add_mul]
  omega

/-! ## The counts of a group (R110) -/

/-- LRG with a code at a count of a frame of its group, the output high below the frame's high count (R110). -/
def Lrg.inGroup (code frame count : Nat) : Lrg :=
  { current := code, pending := none, frame := frame, count := count,
    output := decide (count < highCount code frame) }

/-- The next count within a period (R110). -/
theorem Lrg.nextCount_within {l : Lrg} (within : l.count < 255) :
    l.nextCount = { Lrg.inGroup l.current l.frame (l.count + 1) with pending := l.pending } := by
  rw [Lrg.nextCount, if_pos within]; rfl

/-- The last count of a period goes on to the next frame (R110). -/
theorem Lrg.nextCount_last {l : Lrg} (last : l.count = 255) :
    l.nextCount = { Lrg.inGroup l.current ((l.frame + 1) % 4) 0 with pending := l.pending } := by
  rw [Lrg.nextCount, if_neg (by omega)]; rfl

/-- LRG counts on through the frames of a group (R110). -/
theorem Lrg.inGroup_next (code n : Nat) : (Lrg.inGroup code (n / 256 % 4) (n % 256)).nextCount =
    Lrg.inGroup code ((n + 1) / 256 % 4) ((n + 1) % 256) := by
  by_cases last : n % 256 = 255
  · have period : (n + 1) % 256 = 0 := by omega
    have frame : (n + 1) / 256 % 4 = (n / 256 % 4 + 1) % 4 := by omega
    rw [Lrg.nextCount_last last, period, frame]
    rfl
  · have period : (n + 1) % 256 = n % 256 + 1 := by omega
    have frame : (n + 1) / 256 % 4 = n / 256 % 4 := by omega
    rw [Lrg.nextCount_within (show n % 256 < 255 by omega), period, frame]
    rfl

/-- A group starts at its count 0 and runs through its counts (R110, R111). -/
theorem Lrg.startGroup_iterate (l : Lrg) (n : Nat) :
    Lrg.nextCount^[n] l.startGroup = Lrg.inGroup (l.pending.getD l.current) (n / 256 % 4) (n % 256) := by
  induction n with
  | zero => rfl
  | succ n ih => rw [Function.iterate_succ_apply', ih, Lrg.inGroup_next]

/-- A period's counts from its first are high up to the high count. -/
theorem countP_lt (high counts : Nat) :
    (List.range counts).countP (fun n => decide (n < high)) = min counts high := by
  induction counts with
  | zero => simp
  | succ counts ih =>
    rw [List.range_succ, List.countP_append, ih, List.countP_singleton]
    split
    · next below => rw [decide_eq_true_iff] at below; omega
    · next past => rw [decide_eq_true_iff] at past; omega

/-- The counts of a range, split at one of them. -/
theorem countP_range_add (p : Nat → Bool) (first rest : Nat) : (List.range (first + rest)).countP p =
    (List.range first).countP p + (List.range rest).countP (fun n => p (first + n)) := by
  rw [List.range_add, List.countP_append, List.countP_map]
  rfl

/-- The four frames of a group share the code out, a remainder's parts to the first frames (R110). -/
theorem highCount_sum (code : Nat) :
    highCount code 0 + highCount code 1 + highCount code 2 + highCount code 3 = code := by
  unfold highCount
  (repeat' split) <;> omega

/-- No frame is high for more than its period (R110). -/
theorem highCount_le {code : Nat} (within : code ≤ 1023) (frame : Nat) : highCount code frame ≤ 256 := by
  unfold highCount
  split <;> omega

/-- A group is high for as many counts as its code (R110). -/
theorem countP_group {code : Nat} (within : code ≤ 1023) :
    (List.range 1024).countP (fun n => (Lrg.inGroup code (n / 256 % 4) (n % 256)).output) = code := by
  have period (frame : Nat) (inGroup : frame < 4) :
      (List.range 256).countP (fun n =>
        (Lrg.inGroup code ((256 * frame + n) / 256 % 4) ((256 * frame + n) % 256)).output) = highCount code frame := by
    rw [← min_eq_right (highCount_le within frame), ← countP_lt]
    refine List.countP_congr fun n inPeriod => ?_
    have short := List.mem_range.mp inPeriod
    rw [show (256 * frame + n) / 256 % 4 = frame by omega, show (256 * frame + n) % 256 = n by omega]
    rfl
  have first := period 0 (by decide)
  simp only [Nat.mul_zero, Nat.zero_add] at first
  rw [show 1024 = 256 + (256 + (256 + 256)) from rfl, countP_range_add, countP_range_add, countP_range_add, first]
  simp only [← Nat.add_assoc, Nat.reduceAdd]
  rw [period 1 (by decide), period 2 (by decide), period 3 (by decide)]
  exact highCount_sum code

/-- Settles O33: the rounding by the division's remainder, a group by its four frames, and each count by its place. -/
theorem referenceCodesAndGroups : Obligations.ReferenceCodesAndGroups := by
  refine ⟨fun applied rated positive within => ?_, fun l within => ?_, ?_⟩
  · obtain ⟨low, up⟩ := codeOf_rounds positive applied
    exact ⟨low, up, codeOf_zero rated, codeOf_rated positive, fun less order => codeOf_mono rated order⟩
  · simp only [Lrg.startGroup_iterate]
    exact countP_group within
  intro s running ready high
  refine ⟨fun tap => ?_, fun between => ⟨fun inPeriod => ?_, fun last inGroup => ?_⟩⟩
  · have occurs : occursAt .groupStart s = true := by simp [occursAt, State.isReady, ready, Tmb.onTap, tap]
    exact exec_of_occurs (c := .groupStart) rfl running occurs
  · have occurs : occursAt .pwmCount s = true := by simp [occursAt, State.isReady, ready, Tmb.onTap, between]
    rw [exec_of_occurs (c := .pwmCount) rfl running occurs, effectOf, Lrg.nextCount_within inPeriod]
    rfl
  · have occurs : occursAt .pwmCount s = true := by simp [occursAt, State.isReady, ready, Tmb.onTap, between]
    rw [exec_of_occurs (c := .pwmCount) rfl running occurs, effectOf, Lrg.nextCount_last last]
    rfl

end Sys2Proof.Machine
end

section
/-! PROOFS. The sequencer's events: the filters' edges, contact returns, the down-limit and the state timers, PANTO
requests, and the arc monitor (R115, R116, R118 to R129, R143, R160). -/

namespace Sys2Proof.Machine

/-! ## Input filters (R116) -/

/-- A sample is accepted where it differs from the accepted level and equals the previous one (R116). -/
theorem InputFilter.accepts_iff (f : InputFilter) (level : Bool) :
    f.accepts level = true ↔ level ≠ f.accepted ∧ level = f.previous := by
  simp [InputFilter.accepts]

/-- An accepted sample is the level and the previous sample from then on (R116). -/
theorem InputFilter.sample_of_accepts {f : InputFilter} {level : Bool} (accepts : f.accepts level = true) :
    f.sample level = { accepted := level, previous := level } := by
  rw [InputFilter.accepts] at accepts
  rw [InputFilter.sample, if_pos accepts]

/-- Any other sample is the previous one from then on (R116). -/
theorem InputFilter.sample_of_not {f : InputFilter} {level : Bool} (accepts : f.accepts level = false) :
    f.sample level = { f with previous := level } := by
  rw [InputFilter.accepts] at accepts
  rw [InputFilter.sample, if_neg (by simp [accepts])]

/-- An edge of the contact filter that accepts no level only samples (R116). -/
theorem State.contactEdge_of_not {s : State} {level : Bool} (kept : s.psq.contact.accepts level = false) :
    s.contactEdge level = { s with psq := { s.psq with contact := s.psq.contact.sample level } } := by
  simp only [State.contactEdge, kept, Bool.false_eq_true, if_false]

/-- An edge of the down-limit filter that does not accept the limit only samples (R116). -/
theorem State.downLimitEdge_of_not {s : State} {level : Bool}
    (kept : (s.psq.downLimit.accepts level && level) = false) :
    s.downLimitEdge level = { s with psq := { s.psq with downLimit := s.psq.downLimit.sample level } } := by
  simp only [State.downLimitEdge, kept, Bool.false_eq_true, if_false]

/-- Settles O37: an accepting edge is its event's command, and any other edge only samples. -/
theorem filterEdges : Obligations.FilterEdges := by
  intro s level running tick onEdge accepts kept taken after
  have accepted {f : InputFilter} (accept : accepts f) : f.accepts level = true := (f.accepts_iff level).mpr accept
  have refused {f : InputFilter} (no : ¬accepts f) : f.accepts level = false :=
    Bool.eq_false_iff.mpr (mt (f.accepts_iff level).mp no)
  have takes {f : InputFilter} (accept : accepts f) : f.sample level = taken :=
    InputFilter.sample_of_accepts (accepted accept)
  have keeps {f : InputFilter} (no : ¬accepts f) : f.sample level = kept f := InputFilter.sample_of_not (refused no)
  have edge {input : FilterId} (occurs : s.onFilterEdge input = true) :
      exec (.filterEdge input level) s = .next (s.filterEdge input level).settle := exec_of_occurs rfl running occurs
  refine ⟨fun clock => ?_, fun clock => ?_, fun clock => ?_⟩
  · have up : after (.filterEdge .upLimit level) { s.psq with upLimit := s.psq.upLimit.sample level } :=
      edge (State.onFilterEdge_of tick clock)
    exact ⟨fun accept => takes accept ▸ up, fun no => keeps no ▸ up⟩
  · have occurs : s.onFilterEdge .downLimit = true := State.onFilterEdge_of tick clock
    have down (quiet : (s.psq.downLimit.accepts level && level) = false) :
        after (.filterEdge .downLimit level) { s.psq with downLimit := s.psq.downLimit.sample level } :=
      (edge occurs).trans (by rw [State.filterEdge, State.downLimitEdge_of_not quiet])
    refine ⟨fun accept limit => ?_, fun accept free => ?_, fun no => ?_⟩
    · have reaches := accepted accept
      rw [limit] at reaches
      rw [edge occurs, limit,
        exec_of_occurs (c := .downLimit) rfl running (Bool.and_eq_true_iff.mpr ⟨occurs, reaches⟩)]
      rfl
    · exact takes accept ▸ down (by rw [free, Bool.and_false])
    · exact keeps no ▸ down (by rw [refused no, Bool.false_and])
  · have occurs : s.onFilterEdge .contact = true := State.onFilterEdge_of tick clock
    refine ⟨fun accept contact => ?_, fun accept away => ?_, fun no => ?_⟩
    · have returns := accepted accept
      rw [contact] at returns
      rw [edge occurs, contact,
        exec_of_occurs (c := .contactReturn) rfl running (Bool.and_eq_true_iff.mpr ⟨occurs, returns⟩)]
      rfl
    · have loses := accepted accept
      rw [away] at loses
      rw [edge occurs, away,
        exec_of_occurs (c := .contactLoss) rfl running (Bool.and_eq_true_iff.mpr ⟨occurs, loses⟩)]
      rfl
    · have contact : after (.filterEdge .contact level) { s.psq with contact := s.psq.contact.sample level } :=
        (edge occurs).trans (by rw [State.filterEdge, State.contactEdge_of_not (refused no)])
      exact keeps no ▸ contact

/-! ## Contact returns (R119, R123, R124, R143) -/

/-- To disarm the gap as one update of SGM, which ends a cut in force (R143). -/
theorem State.disarmGap_eq (s : State) :
    let disarmed : Sgm := { s.sgm with phase := .disarmed, cut := false, countdown := none, graceTimer := none }
    s.disarmGap = if s.sgm.cut then State.redraw { s with sgm := disarmed } false else { s with sgm := disarmed } := by
  intro disarmed
  simp only [State.disarmGap, State.endGapCut]
  split
  · rfl
  · next free =>
    have kept : disarmed = { s.sgm with phase := .disarmed, countdown := none, graceTimer := none } := by
      simp [disarmed, free]
    rw [kept]

/-- Settles O39: PSQ's move by its state, and the gap's by its phase. -/
theorem contactReturns : Obligations.ContactReturns := by
  intro s running tick clock filter heard
  have accepts : s.psq.contact.accepts true = true := by simp [filter, InputFilter.accepts]
  have occurs : occursAt .contactReturn s = true :=
    Bool.and_eq_true_iff.mpr ⟨State.onFilterEdge_of tick clock, accepts⟩
  have answers : exec .contactReturn s = .next heard.contactReturned.settle := by
    rw [exec_of_occurs rfl running occurs, effectOf, State.contactEdge, if_pos accepts, if_pos rfl,
      InputFilter.sample_of_accepts accepts]
  have state : heard.psq.state = s.psq.state := rfl
  have limit : heard.psq.upLimit = s.psq.upLimit := rfl
  have sgm : heard.psqContactReturned.sgm = s.sgm := by simp [heard]
  refine ⟨heard.psqContactReturned, fun raising high => ?_, fun raising low => ?_, fun away => ?_,
    fun notRaising notDropout notCoast => ?_, fun other => ?_, fun crossing => ?_⟩
  · simp only [State.psqContactReturned, state, raising, limit, high, if_true]
  · simp only [State.psqContactReturned, state, raising, limit, low, Bool.false_eq_true, if_false]
  · rcases away with dropout | coast
    · simp only [State.psqContactReturned, state, dropout]
    · simp only [State.psqContactReturned, state, coast]
  · unfold State.psqContactReturned
    rw [state]
    split
    · next raising => exact absurd raising notRaising
    · next dropout => exact absurd dropout notDropout
    · next coast => exact absurd coast notCoast
    · rfl
  · rw [answers, State.contactReturned, sgm, if_neg other]
  · rw [answers, State.contactReturned, sgm, if_pos crossing, State.disarmGap_eq, sgm]

/-! ## Entries that go on at once (R122, R125) -/

/-- An entry to RETRACTING goes on to STOWED where the accepted down-limit is true (R125). -/
theorem State.enterRetracting_eq (s : State) : s.enterRetracting =
    if s.psq.downLimit.accepted then (s.enterPsq .retracting).enterPsq .stowed else s.enterPsq .retracting := by
  have limit : (s.enterPsq .retracting).psq.downLimit = s.psq.downLimit := by simp
  rw [State.enterRetracting, limit]

/-- An entry to CUTTING goes on to DISCHARGE where A is 0 (R122). -/
theorem State.enterCutting_eq (s : State) : s.enterCutting =
    if s.drp.applied = 0 then (s.enterPsq .cutting).enterPsq .discharge else s.enterPsq .cutting := by
  have applied : (s.enterPsq .cutting).drp.applied = s.drp.applied := s.enterPsq_applied .cutting
  rw [State.enterCutting, applied]

/-! ## The down-limit and the state timers (R115, R118 to R120, R123 to R125) -/

/-- The accepted down-limit ends RETRACTING and STUCK, outside HALTED (R125). -/
theorem State.downLimitReached_stows {s : State} (running : s.cfl.loader ≠ .halted)
    (lowered : s.psq.state = .retracting ∨ s.psq.state = .stuck) : s.downLimitReached = s.enterPsq .stowed := by
  rw [State.downLimitReached, if_neg running]
  rcases lowered with retracting | stuck
  · rw [retracting]
  · rw [stuck]

/-- In any other state the accepted down-limit changes nothing, outside HALTED (R125). -/
theorem State.downLimitReached_of_other {s : State} (running : s.cfl.loader ≠ .halted)
    (notRetracting : s.psq.state ≠ .retracting) (notStuck : s.psq.state ≠ .stuck) : s.downLimitReached = s := by
  rw [State.downLimitReached, if_neg running]
  split
  · next retracting => exact absurd retracting notRetracting
  · next stuck => exact absurd stuck notStuck
  · rfl

/-- Settles O40: the down-limit by the loader and PSQ's state, and each expiry by the state that its timer is for. -/
theorem downLimitAndStateTimers : Obligations.DownLimitAndStateTimers := by
  intro s running retract
  refine ⟨fun tick clock filter => ?_, fun due timer come => ?_⟩
  · intro down
    have accepts : s.psq.downLimit.accepts true = true := by simp [filter, InputFilter.accepts]
    have occurs : occursAt .downLimit s = true :=
      Bool.and_eq_true_iff.mpr ⟨State.onFilterEdge_of tick clock, accepts⟩
    have answers : exec .downLimit s = .next down.downLimitReached.settle := by
      rw [exec_of_occurs rfl running occurs, effectOf, State.downLimitEdge, accepts, Bool.and_self, if_pos rfl,
        InputFilter.sample_of_accepts accepts]
    rw [answers]
    refine ⟨fun halted => ?_, fun awake lowered => ?_, fun awake notRetracting notStuck => ?_⟩
    · rw [State.downLimitReached, if_pos (show down.cfl.loader = .halted from halted)]
    · rw [State.downLimitReached_stows (s := down) awake lowered]
    · rw [State.downLimitReached_of_other (s := down) awake notRetracting notStuck]
  · have expires {st : PsqState} (at' : s.psq.state = st) : s.timerExpires st = true :=
      (s.timerExpires_iff st).mpr ⟨at', due, timer, come⟩
    refine ⟨fun at' => ?_, fun at' => ⟨fun heard => ?_, fun stow => ?_⟩, fun at' => ?_, fun at' => ?_, fun at' => ?_,
      fun at' => ?_⟩
    · rw [exec_of_occurs (c := .raiseTimeout) rfl running (expires at'), effectOf, State.raiseTimedOut,
        State.enterRetracting_eq]
      rfl
    · rw [exec_of_occurs (c := .prechargeExpiry) rfl running (expires at'), effectOf, State.prechargeDone,
        if_neg (by simp [heard])]
    · rw [exec_of_occurs (c := .prechargeExpiry) rfl running (expires at'), effectOf, State.prechargeDone, if_pos stow]
    · exact exec_of_occurs (c := .reacquireExpiry) rfl running (expires at')
    · exact exec_of_occurs (c := .coastExpiry) rfl running (expires at')
    · rw [exec_of_occurs (c := .dischargeExpiry) rfl running (expires at'), effectOf, State.enterRetracting_eq]
    · exact exec_of_occurs (c := .retractTimeout) rfl running (expires at')

/-! ## PANTO requests (R126, R157, R160) -/

/-- A PANTO frame of one request byte passes the checks from READY on (R157). -/
theorem State.examine_panto {s : State} {request : Byte} (ready : s.cfl.loader = .ready)
    (frame : s.dlk.rx.frame = some (18, [request])) (act : List Byte → State → State) :
    s.examine act = (act [request] s).clearBuffer := by
  have one : requiredLength 18#8 = some 1 := rfl
  have accepted : s.frameRefusal 18 [request] = none := by simp [State.frameRefusal, State.isReady, ready, one]
  simp only [State.examine, frame, accepted]

/-- A frame of a row ends where the line is idle (R156). -/
theorem State.frameEnds_of {s : State} {row : FrameRow} {f : Byte × List Byte} (idle : s.LineIdle)
    (frame : s.dlk.rx.frame = some f) (isRow : s.dlk.rx.row = row) : s.frameEnds row = true :=
  (State.frameEnds_iff ..).mpr ⟨RxBuffer.bytes_ne_nil frame, (State.lineIdle_iff s).mpr idle, isRow⟩

/-- PSQ's answer to RAISE by its state (R126, R160). -/
theorem State.raiseFrame_cases (s : State) :
    (s.psq.state = .stowed → s.raiseFrame = s.enterPsq .raising) ∧
    (s.psq.state = .raising ∨ s.psq.state = .precharge ∨ s.psq.state = .engaged ∨ s.psq.state = .dropout ∨
      s.psq.state = .gapCoast → s.raiseFrame = s.triggerStatus) ∧
    (s.psq.state = .cutting ∨ s.psq.state = .discharge ∨ s.psq.state = .retracting ∨ s.psq.state = .stuck →
      s.raiseFrame = s.refuse typePanto .state) := by
  unfold State.raiseFrame
  refine ⟨fun stowed => ?_, fun raised => ?_, fun leaving => ?_⟩
  · rw [stowed]; rfl
  · rcases raised with at' | at' | at' | at' | at' <;> rw [at'] <;> rfl
  · rcases leaving with at' | at' | at' | at' <;> rw [at'] <;> rfl

/-- PSQ's answer to LOWER by its state (R126). -/
theorem State.lowerFrame_cases (s : State) :
    (s.psq.state = .raising → s.lowerFrame = s.enterRetracting) ∧
    (s.psq.state = .engaged → s.lowerFrame = s.enterCutting) ∧
    (s.psq.state = .precharge ∨ s.psq.state = .dropout ∨ s.psq.state = .gapCoast →
      s.lowerFrame = s.enterPsq .discharge) ∧
    (s.psq.state = .stowed ∨ s.psq.state = .cutting ∨ s.psq.state = .discharge ∨ s.psq.state = .retracting ∨
      s.psq.state = .stuck → s.lowerFrame = s.triggerStatus) := by
  unfold State.lowerFrame State.lowerTaken
  refine ⟨fun raising => ?_, fun engaged => ?_, fun raised => ?_, fun lowered => ?_⟩
  · rw [raising]; rfl
  · rw [engaged]; rfl
  · rcases raised with at' | at' | at' <;> rw [at'] <;> rfl
  · rcases lowered with at' | at' | at' | at' | at' <;> rw [at'] <;> rfl

/-- Settles O42: PSQ's answer to each request by its state, and the refusal of any other request byte. -/
theorem pantoRequests : Obligations.PantoRequests := by
  intro s running ready st done acknowledged refused cutting
  refine ⟨fun idle frame => ?_, fun idle frame => ?_, fun request notRaise notLower idle frame => ?_⟩
  · have isRow := (RxBuffer.row_eq_iff s.dlk.rx .pantoRaise).mpr ⟨_, frame, rfl, rfl⟩
    have answers : exec .pantoRaise s = done s.raiseFrame := by
      rw [exec_of_occurs (c := .pantoRaise) rfl running (State.frameEnds_of idle frame isRow), effectOf,
        State.examine_panto ready frame]
      rfl
    obtain ⟨taken, noChange, refusal⟩ := s.raiseFrame_cases
    refine ⟨fun stowed => ?_, fun raised => ?_, fun leaving => ?_⟩
    · rw [answers, taken stowed]
    · rw [answers, noChange raised]; rfl
    · rw [answers, refusal leaving]; rfl
  · have isRow := (RxBuffer.row_eq_iff s.dlk.rx .pantoLower).mpr ⟨_, frame, rfl, rfl⟩
    have answers : exec .pantoLower s = done s.lowerFrame := by
      rw [exec_of_occurs (c := .pantoLower) rfl running (State.frameEnds_of idle frame isRow), effectOf,
        State.examine_panto ready frame]
      rfl
    obtain ⟨retracts, cuts, discharges, noChange⟩ := s.lowerFrame_cases
    refine ⟨fun raising => ?_, fun engaged => ?_, fun raised => ?_, fun lowered => ?_⟩
    · rw [answers, retracts raising, State.enterRetracting_eq]
    · rw [answers, cuts engaged, State.enterCutting_eq]
    · rw [answers, discharges raised]
    · rw [answers, noChange lowered]; rfl
  · have isRow := (RxBuffer.row_eq_iff s.dlk.rx .pantoBadValue).mpr
      ⟨_, frame, rfl, by simpa using notRaise, by simpa using notLower⟩
    rw [exec_of_occurs (c := .pantoBadValue) rfl running (State.frameEnds_of idle frame isRow), effectOf,
      State.examine_panto ready frame]
    rfl

/-! ## The arc monitor (R127 to R129) -/

/-- A change of the last of a list's items. -/
theorem modify_append_singleton {α : Type} (f : α → α) (older : List α) (last : α) :
    (older ++ [last]).modify older.length f = older ++ [f last] := by
  induction older with
  | nil => rfl
  | cons first rest ih => simpa using ih

/-- A contact sample of "contact" ends the raw run; a run of 1 to bounce_max raises the current bucket (R127). -/
theorem Psq.contactSample_contact {p : Psq} {older : List Nat} {current : Nat} (seven : older.length = 7)
    (ring : p.buckets = older ++ [current]) (bounceMax : Nat) :
    (1 ≤ p.rawRun → p.rawRun ≤ bounceMax → p.contactSample true bounceMax =
      { p with rawRun := 0, buckets := older ++ [min 255 (current + 1)] }) ∧
    (p.rawRun = 0 ∨ bounceMax < p.rawRun → p.contactSample true bounceMax = { p with rawRun := 0 }) := by
  refine ⟨fun begun short => ?_, fun none => ?_⟩
  · have bounced : p.buckets.modify 7 (saturate 255) = older ++ [min 255 (current + 1)] := by
      rw [ring, ← seven]; exact modify_append_singleton ..
    simp [Psq.contactSample, begun, short, bounced]
  · have noBounce : (decide (1 ≤ p.rawRun) && decide (p.rawRun ≤ bounceMax)) = false := by
      rw [Bool.and_eq_false_iff, decide_eq_false_iff_not, decide_eq_false_iff_not]; omega
    simp only [Psq.contactSample, noBounce, if_true, Bool.false_eq_true, if_false]

/-- Arc warn after a comparison of the arc sum below the trip threshold (R129). -/
theorem arcWarnAfter_cases (img : Image) (before : Bool) (sum : Nat) :
    (img.arcWarn ≤ sum → arcWarnAfter img before sum = true) ∧
    (sum < img.arcWarn → img.arcWarn / 2 < sum → arcWarnAfter img before sum = before) ∧
    (sum < img.arcWarn → sum ≤ img.arcWarn / 2 → arcWarnAfter img before sum = false) := by
  unfold arcWarnAfter
  refine ⟨fun warns => if_pos warns, fun below above => ?_, fun below half => ?_⟩
  · rw [if_neg (by omega), if_pos above]
  · rw [if_neg (by omega), if_neg (by omega)]

/-- The part with arc warn set or cleared, and a recomposition where that changes it (R98, R129). -/
def State.warned (s : State) (warn : Bool) : State :=
  let u : State := { s with psq := { s.psq with arcWarn := warn } }
  if warn = s.psq.arcWarn then u else u.recompose false

/-- A sticky fault is no term of T, so a recomposition may stand before or after its request (R98, R164). -/
theorem State.recompose_setSticky (s : State) (f : StickyFault) (cutArrives : Bool) :
    (s.setSticky f).recompose cutArrives = (s.recompose cutArrives).setSticky f := by
  have ready : (s.setSticky f).isReady = s.isReady := rfl
  unfold State.recompose
  rw [ready]
  split <;> rfl

/-- The comparison of the arc sum by the thresholds (R129). -/
theorem State.compareArc_cases (s : State) :
    (s.psq.arcSum < s.cfg.arcTrip →
      s.compareArc = s.warned (arcWarnAfter s.cfg s.psq.arcWarn s.psq.arcSum)) ∧
    (s.cfg.arcTrip ≤ s.psq.arcSum →
      (s.psq.state = .engaged → s.compareArc =
        (State.setSticky { s with psq := { s.psq with arcWarn := true } } .arcTrip).enterCutting) ∧
      (s.psq.state ≠ .engaged → s.compareArc = (s.warned true).setSticky .arcTrip)) := by
  unfold State.compareArc
  refine ⟨fun below => ?_, fun trips => ⟨fun engaged => ?_, fun cutting => ?_⟩⟩
  · exact if_neg (Nat.not_le.mpr below)
  · dsimp only
    rw [if_pos trips, if_pos engaged]
  · dsimp only [State.warned]
    rw [if_pos trips, if_neg cutting]
    cases warn : s.psq.arcWarn with
    | true => rfl
    | false => exact State.recompose_setSticky ..

/-- Settles O43: each strobe by the raw run that it finds, and each ring advance by the arc sum and PSQ's state. -/
theorem arcMonitor : Obligations.ArcMonitor := by
  intro s running
  refine ⟨fun closed tap => ?_, fun due timer come => ?_⟩
  · intro after
    have strobe (contact : Bool) :
        exec (.contactStrobe contact) s = after (s.psq.contactSample contact s.cfg.bounceMax) :=
      exec_of_occurs rfl running (by simp [occursAt, (PsqState.closed_iff _).mpr closed, Tmb.onTap, tap])
    refine ⟨strobe false, fun older current seven ring => ?_⟩
    obtain ⟨bounces, none⟩ := Psq.contactSample_contact seven ring s.cfg.bounceMax
    refine ⟨fun begun short => ?_, fun no => ?_⟩
    · rw [strobe, bounces begun short]
    · rw [strobe, none no]
  · intro timed advanced warned tripped sum
    have reloaded : { s with psq := { s.psq with ringTimer := s.psq.ringTimer.reload 125 } } = timed s := by
      rw [timer]; rfl
    have answers : exec .ringAdvance s = advanced (if s.psq.state.closed then (timed s).compareArc else timed s) := by
      rw [exec_of_occurs (c := .ringAdvance) rfl running ((Timer.due_iff ..).mpr ⟨due, timer, come⟩), effectOf,
        State.ringAdvances, reloaded]
      rfl
    have compares (closed : s.psq.state = .engaged ∨ s.psq.state = .cutting) :
        exec .ringAdvance s = advanced (timed s).compareArc := by
      rw [answers, if_pos ((PsqState.closed_iff _).mpr closed)]
    obtain ⟨judges, trips⟩ := (timed s).compareArc_cases
    obtain ⟨warns, keeps, clears⟩ := arcWarnAfter_cases s.cfg s.psq.arcWarn sum
    have judged (below : sum < s.cfg.arcTrip) {warn : Bool} (is : arcWarnAfter s.cfg s.psq.arcWarn sum = warn) :
        (timed s).compareArc = warned warn := by
      rw [← is]; exact judges below
    refine ⟨fun notEngaged notCutting => ?_, fun closed => ⟨fun below high => ?_, fun below low above => ?_,
      fun below low half => ?_⟩, fun trip => ⟨fun cutting => ?_, fun engaged => ?_⟩⟩
    · rw [answers, if_neg (mt (PsqState.closed_iff _).mp (not_or.mpr ⟨notEngaged, notCutting⟩))]
    · rw [compares closed, judged below (warns high)]
    · have stands : warned s.psq.arcWarn = timed s := if_pos rfl
      rw [compares closed, judged below (keeps low above), stands]
    · rw [compares closed, judged below (clears low half)]
    · have other : (timed s).psq.state ≠ .engaged := by simp [timed, cutting]
      rw [compares (.inr cutting), (trips trip).2 other]
      rfl
    · rw [compares (.inl engaged), (trips trip).1 engaged, State.enterCutting_eq]
      rfl

end Sys2Proof.Machine
end

section
/-! PROOFS. The contactor closes only at the precharge time's expiry, and opens as ENGAGED and CUTTING are left (R114,
R120). -/

namespace Sys2Proof.Machine

/-! ## Where the sequencer goes (R114, R119 to R126) -/

/-- What an event other than a precharge time's expiry into ENGAGED can make of PSQ's state and the contactor: both
stay, or ENGAGED goes to CUTTING, or a state is entered whose contactor is open, from ENGAGED only the three that R121,
R122 and R124 give. -/
inductive State.SequencerGoes (s u : State) : Prop
  | stays (state : u.psq.state = s.psq.state) (contactor : u.psq.contactor = s.psq.contactor)
  | cuts (engaged : s.psq.state = .engaged) (state : u.psq.state = .cutting)
  | opens (contactor : u.psq.contactor = false)
      (leaves : s.psq.state = .engaged →
        u.psq.state = .discharge ∨ u.psq.state = .gapCoast ∨ u.psq.state = .dropout)

namespace State.SequencerGoes

variable {s u v : State}

theorem of_psq (psq : u.psq = s.psq) : s.SequencerGoes u := .stays (by rw [psq]) (by rw [psq])

/-- PSQ's state and the contactor are all that is read of the state before. -/
theorem from_same (goes : u.SequencerGoes v) (state : u.psq.state = s.psq.state)
    (contactor : u.psq.contactor = s.psq.contactor) : s.SequencerGoes v := by
  cases goes with
  | stays state' contactor' => exact .stays (state'.trans state) (contactor'.trans contactor)
  | cuts engaged cutting => exact .cuts (state.symm.trans engaged) cutting
  | opens contactor' leaves => exact .opens contactor' fun engaged => leaves (state.trans engaged)

/-- PSQ's state and the contactor are all that is read of the state after. -/
theorem to_same (goes : s.SequencerGoes u) (psq : v.psq = u.psq) : s.SequencerGoes v := by
  cases goes with
  | stays state contactor => exact .stays (by rw [psq, state]) (by rw [psq, contactor])
  | cuts engaged cutting => exact .cuts engaged (by rw [psq, cutting])
  | opens contactor leaves => exact .opens (by rw [psq, contactor]) (by rw [psq]; exact leaves)

/-- An entry to a state whose contactor is open, from another state than ENGAGED (R114). -/
theorem enterOpen (u : State) {st : PsqState} (opens : st.closed = false) (other : s.psq.state ≠ .engaged) :
    s.SequencerGoes (u.enterPsq st) :=
  .opens (by simp [opens]) fun engaged => absurd engaged other

/-- ENGAGED is left for CUTTING, where A at 0 leads on to DISCHARGE (R121, R122). -/
theorem enterCutting (u : State) (engaged : s.psq.state = .engaged) : s.SequencerGoes u.enterCutting := by
  rw [State.enterCutting_eq]
  split
  · exact .opens (by simp [PsqState.closed]) fun _ => .inl (by simp)
  · exact .cuts engaged (by simp)

/-- RETRACTING or STOWED is entered, from another state than ENGAGED (R119, R125). -/
theorem enterRetracting (u : State) (other : s.psq.state ≠ .engaged) : s.SequencerGoes u.enterRetracting := by
  rw [State.enterRetracting_eq]
  split
  · exact enterOpen _ rfl other
  · exact enterOpen _ rfl other

theorem psqContactLost (s : State) : s.SequencerGoes s.psqContactLost := by
  unfold State.psqContactLost
  split
  · cases s.sgm.armed with
    | true => exact .opens (by simp [PsqState.closed]) fun _ => .inr (.inl (by simp))
    | false => exact .opens (by simp [PsqState.closed]) fun _ => .inr (.inr (by simp))
  · next cutting => exact enterOpen _ rfl (by simp [cutting])
  · next precharge =>
    dsimp only
    split
    · exact enterOpen _ rfl (by simp [precharge])
    · exact enterOpen _ rfl (by simp [precharge])
  · exact of_psq rfl

theorem contactLost (s : State) : s.SequencerGoes s.contactLost :=
  ((psqContactLost s.abortNotice).from_same (by simp) (by simp)).to_same rfl

theorem psqContactReturned (s : State) : s.SequencerGoes s.psqContactReturned := by
  unfold State.psqContactReturned
  split
  · next raising => exact enterOpen _ rfl (by simp [raising])
  · next dropout => exact enterOpen _ rfl (by simp [dropout])
  · next coast => exact enterOpen _ rfl (by simp [coast])
  · exact of_psq rfl

theorem contactReturned (s : State) : s.SequencerGoes s.contactReturned := by
  unfold State.contactReturned
  dsimp only
  split
  · exact (psqContactReturned s).to_same (by simp)
  · exact psqContactReturned s

theorem downLimitReached (s : State) : s.SequencerGoes s.downLimitReached := by
  unfold State.downLimitReached
  split
  · exact .stays rfl rfl
  · split
    · next retracting => exact enterOpen _ rfl (by simp [retracting])
    · next stuck => exact enterOpen _ rfl (by simp [stuck])
    · exact of_psq rfl

theorem filterEdge (s : State) (input : FilterId) (level : Bool) : s.SequencerGoes (s.filterEdge input level) := by
  cases input with
  | contact =>
    simp only [State.filterEdge, State.contactEdge]
    split
    · split
      · exact (contactReturned _).from_same rfl rfl
      · exact (contactLost _).from_same rfl rfl
    · exact .stays rfl rfl
  | upLimit => exact .stays rfl rfl
  | downLimit =>
    simp only [State.filterEdge, State.downLimitEdge]
    split
    · exact (downLimitReached _).from_same rfl rfl
    · exact .stays rfl rfl

/-- The comparison of the arc sum leaves ENGAGED at the trip threshold, and no other state (R129). -/
theorem compareArc (s : State) : s.SequencerGoes s.compareArc := by
  have stays (warn : Bool) : (s.warned warn).psq.state = s.psq.state ∧
      (s.warned warn).psq.contactor = s.psq.contactor := by
    unfold State.warned
    dsimp only
    split <;> simp
  obtain ⟨judges, trips⟩ := s.compareArc_cases
  by_cases below : s.psq.arcSum < s.cfg.arcTrip
  · rw [judges below]
    exact .stays (stays _).1 (stays _).2
  · by_cases engaged : s.psq.state = .engaged
    · rw [(trips (Nat.not_lt.mp below)).1 engaged]
      exact enterCutting _ engaged
    · rw [(trips (Nat.not_lt.mp below)).2 engaged]
      exact .stays (stays _).1 (stays _).2

theorem ringAdvances (s : State) : s.SequencerGoes s.ringAdvances := by
  unfold State.ringAdvances
  dsimp only
  have advanced {u : State} (goes : s.SequencerGoes u) : s.SequencerGoes (u.withPsq u.psq.advanceRing) := by
    cases goes with
    | stays state contactor => exact .stays state contactor
    | cuts engaged cutting => exact .cuts engaged cutting
    | opens contactor leaves => exact .opens contactor leaves
  split
  · exact advanced ((compareArc _).from_same rfl rfl)
  · exact advanced (.stays rfl rfl)

/-- A ramp step that brings A to 0 ends CUTTING (R122). -/
theorem rampStep (s : State) : s.SequencerGoes s.rampStep := by
  have moved : s.rampMoved.judgeGap.psq = s.psq := by simp [State.rampMoved]
  show s.SequencerGoes s.rampMoved.judgeGap.handZero
  unfold State.handZero
  split
  · next zero => exact enterOpen _ rfl (by rw [← moved, zero.1]; decide)
  · exact of_psq moved

theorem standStow (s : State) : s.SequencerGoes s.standStow := by
  unfold State.standStow
  dsimp only
  split
  · next engaged => exact enterCutting _ engaged
  · exact of_psq rfl

/-- A frame end moves PSQ only where its frame does (R157). -/
theorem examine {act : List Byte → State → State} (taken : ∀ payload, s.SequencerGoes (act payload s)) :
    s.SequencerGoes (s.examine act) :=
  State.examine_keeps (fun _ goes => goes.to_same rfl) (of_psq rfl) (fun _ _ => of_psq (by simp)) taken

theorem raiseFrame (s : State) : s.SequencerGoes s.raiseFrame := by
  unfold State.raiseFrame
  split
  · next taken => exact enterOpen _ rfl fun engaged => by rw [engaged] at taken; cases taken
  · exact of_psq rfl
  · exact of_psq (by simp)

theorem lowerFrame (s : State) : s.SequencerGoes s.lowerFrame := by
  unfold State.lowerFrame
  split
  · unfold State.lowerTaken
    split
    · next raising => exact enterRetracting _ (by simp [raising])
    · next engaged => exact enterCutting _ engaged
    · next precharge => exact enterOpen _ rfl (by simp [precharge])
    · next dropout => exact enterOpen _ rfl (by simp [dropout])
    · next coast => exact enterOpen _ rfl (by simp [coast])
    all_goals exact of_psq rfl
  · exact of_psq rfl
  · exact of_psq (by simp)

/-- A RESTART is taken in STOWED only (R160). -/
theorem restartFrame (s : State) (raw : RawInputs) : s.SequencerGoes (s.restartFrame raw) := by
  unfold State.restartFrame
  split
  · next stowed => exact .opens rfl fun engaged => by rw [stowed] at engaged; cases engaged
  · exact of_psq (by simp)

/-- READY finds the part at rest, in STOWED (R118, R169). -/
theorem enterReady (stowed : s.psq.state = .stowed) : s.SequencerGoes s.enterReady := by
  rw [State.enterReady_eq]
  split
  · exact of_psq rfl
  · exact enterOpen _ rfl (by simp [stowed])

theorem judgeBlock (s : State) (block : List Byte) : s.SequencerGoes (s.judgeBlock block) := by
  unfold State.judgeBlock State.halt
  dsimp only
  (repeat' split) <;> exact .stays rfl rfl

end State.SequencerGoes

/-- Where every command takes the sequencer: into ENGAGED, with the contactor closing, only a precharge time's expiry
that finds no stow condition (R114, R120). -/
theorem effectOf_sequencer {c : Instr} {s : State} (quiet : s.QuietUnlessReady) (occurs : occursAt c s = true) :
    s.SequencerGoes (effectOf c s) ∨
      (c = .prechargeExpiry ∧ s.dlk.stow = false ∧ effectOf c s = s.enterPsq .engaged) := by
  have expired {st : PsqState} (expires : s.timerExpires st = true) : s.psq.state = st :=
    ((s.timerExpires_iff st).mp expires).1
  cases touches : touchesPsq c with
  | false => exact .inl (.of_psq (effectOf_psq touches))
  | true =>
    cases c <;> simp only [touchesPsq, Bool.false_eq_true] at touches
    case prechargeExpiry =>
      simp only [effectOf, State.prechargeDone]
      split
      · exact .inl (.enterOpen _ rfl (by simp [expired occurs]))
      · next heard => exact .inr ⟨trivial, by simpa using heard, rfl⟩
    all_goals left
    case ready =>
      simp only [occursAt, Bool.and_eq_true, beq_iff_eq] at occurs
      exact .enterReady (quiet (by simp [occurs.1.1])).stowed
    case spiReadCompletion block => exact .judgeBlock s block
    case contactStrobe contact =>
      simp only [effectOf, Psq.contactSample]
      split <;> exact .stays rfl rfl
    case rampStep => exact .rampStep s
    case contactLoss => exact .filterEdge s .contact false
    case contactReturn => exact .filterEdge s .contact true
    case downLimit => exact .filterEdge s .downLimit true
    case filterEdge input level => exact .filterEdge s input level
    case raiseTimeout => exact .enterRetracting _ (by simp [expired occurs])
    case reacquireExpiry => exact .enterOpen _ rfl (by simp [expired occurs])
    case coastExpiry => exact .enterOpen _ rfl (by simp [expired occurs])
    case dischargeExpiry => exact .enterRetracting _ (by simp [expired occurs])
    case retractTimeout => exact .enterOpen _ rfl (by simp [expired occurs])
    case ringAdvance => exact .ringAdvances s
    case pantoRaise => exact .examine fun _ => .raiseFrame s
    case pantoLower => exact .examine fun _ => .lowerFrame s
    case restart raw => exact .examine fun _ => .restartFrame s raw
    case stowTimerExpiry => exact .standStow s

/-! ## Every command, with the resets (R114, R120, R170) -/

/-- Everything that a command can answer, with the commands that are resets named. -/
theorem exec_answers_or_resets {c : Instr} {s t : State} (hx : exec c s = .next t) :
    t = s ∨ (resets c = true ∧ t.psq.state = .stowed ∧ t.psq.contactor = false ∧ ∃ cause, t.dlk = .atReset cause) ∨
    (occursAt c s = true ∧ t = (effectOf c s).settle) := by
  rcases exec_cases hx with same | reset | ⟨-, -, occurs, effect⟩
  · exact .inl same
  · cases c <;> simp only [holdsReset, Bool.false_eq_true] at reset
    case powerOn => cases hx; exact .inr (.inl ⟨rfl, rfl, rfl, _, rfl⟩)
    case pinReset => cases hx; exact .inr (.inl ⟨rfl, rfl, rfl, _, rfl⟩)
    case resetEnd raw =>
      simp only [exec, execResetEnd] at hx
      split at hx <;> cases hx
      · exact .inr (.inl ⟨rfl, rfl, rfl, _, rfl⟩)
      · exact .inl rfl
  · exact .inr (.inr ⟨occurs, effect⟩)

/-- Settles O41: by where each command takes the sequencer, with the contactor as R114 tables it before. -/
theorem contactorClosesOnlyAfterPrecharge : Obligations.ContactorClosesOnlyAfterPrecharge := by
  intro c s t locked quiet hx
  have openAs {u : State} (state : u.psq.state = s.psq.state) (contactor : u.psq.contactor = s.psq.contactor)
      (notEngaged : u.psq.state ≠ .engaged) (notCutting : u.psq.state ≠ .cutting) : u.psq.contactor = false := by
    rw [contactor, locked.contactor, ← state, Bool.eq_false_iff, ne_eq, PsqState.closed_iff, not_or]
    exact ⟨notEngaged, notCutting⟩
  have stays {u : State} (contactor : u.psq.contactor = s.psq.contactor) (opened : s.psq.contactor = false)
      (closes : u.psq.contactor = true) : False := by rw [contactor, opened] at closes; cases closes
  have effect (u : State) : u.settle.psq = u.psq := by simp
  rcases exec_answers_or_resets hx with rfl | ⟨reset, -, opened, -⟩ | ⟨occurs, rfl⟩
  · exact ⟨fun opened closes => (stays rfl opened closes).elim, openAs rfl rfl, fun at' left => absurd at' left⟩
  · exact ⟨fun _ closes => absurd (opened.symm.trans closes) Bool.false_ne_true, fun _ _ => opened,
      fun _ _ => .inl reset⟩
  · rw [effect]
    rcases effectOf_sequencer quiet occurs with goes | ⟨rfl, heard, enters⟩
    · cases goes with
      | stays state contactor =>
        exact ⟨fun opened closes => (stays contactor opened closes).elim, openAs state contactor,
          fun at' left => absurd (state.trans at') left⟩
      | cuts engaged cutting =>
        refine ⟨fun opened => ?_, fun _ notCutting => absurd cutting notCutting, fun _ _ => .inr (.inl cutting)⟩
        rw [locked.contactor, engaged] at opened
        cases opened
      | opens opened leaves =>
        exact ⟨fun _ closes => absurd (opened.symm.trans closes) Bool.false_ne_true, fun _ _ => opened,
          fun engaged _ => .inr (.inr (leaves engaged))⟩
    · obtain ⟨at', due⟩ := (s.timerExpires_iff .precharge).mp occurs
      have engaged : (effectOf .prechargeExpiry s).psq.state = .engaged := by rw [enters]; simp
      refine ⟨fun _ _ => ⟨rfl, at', (Timer.due_iff ..).mpr due, heard, engaged, ?_, ?_⟩,
        fun notEngaged => absurd engaged notEngaged, fun _ left => absurd engaged left⟩
      · rw [enters]; simp
      · rw [enters, State.enterPsq_psq]; rfl

end Sys2Proof.Machine
end

section
/-! PROOFS. The sticky faults: which commands set one, and the STATUS in which it is reported and leaves (R130, R161,
R163, R164). -/

namespace Sys2Proof.Machine

/-! ## What leaves the sticky faults and the frame being sent (R161, R164) -/

/-- What the law of the sticky faults reads of DLK: the faults that stand, and the frame being sent. -/
def Dlk.reports (d : Dlk) : StickySet × Option Sending := (d.sticky, d.sending)

theorem State.triggerStatusIf_reports (s : State) (b : Bool) :
    (s.triggerStatusIf b).dlk.reports = s.dlk.reports := by
  rw [State.triggerStatusIf_dlk]; rfl
@[simp] theorem State.withCfm_reports (s : State) (m : Cfm) : (s.withCfm m).dlk.reports = s.dlk.reports := by
  simp only [State.withCfm, State.triggerStatusIf_reports]
@[simp] theorem State.raiseCause_reports (s : State) (c : Cause) : (s.raiseCause c).dlk.reports = s.dlk.reports := by
  simp only [State.raiseCause, State.withCfm_reports]
@[simp] theorem State.clearCause_reports (s : State) (c : Cause) : (s.clearCause c).dlk.reports = s.dlk.reports := by
  simp only [State.clearCause, State.withCfm_reports]
@[simp] theorem State.reportCause_reports (s : State) (c : Cause) (active : Bool) :
    (s.reportCause c active).dlk.reports = s.dlk.reports := by
  unfold State.reportCause; split <;> simp

/-! ### Notices and rounds (R9 to R23, R44, R62) -/

@[simp] theorem State.withNtx_reports (s : State) (n : Ntx) : (s.withNtx n).dlk.reports = s.dlk.reports := by
  rw [State.withNtx_eq]; rfl
@[simp] theorem State.enterIdle_reports (s : State) : s.enterIdle.dlk.reports = s.dlk.reports := by
  simp only [State.enterIdle, State.withNtx_reports]
@[simp] theorem State.enterMuted_reports (s : State) (raised : Bool) :
    (s.enterMuted raised).dlk.reports = s.dlk.reports := by
  simp only [State.enterMuted, State.withNtx_reports]; split <;> simp
@[simp] theorem State.completeNotice_reports (s : State) : s.completeNotice.dlk.reports = s.dlk.reports := by
  simp only [State.completeNotice]; (repeat' split) <;> simp
@[simp] theorem State.abortNotice_reports (s : State) : s.abortNotice.dlk.reports = s.dlk.reports := by
  simp only [State.abortNotice]; (repeat' split) <;> simp
@[simp] theorem State.ownDelivery_reports (s : State) (n : Notice) : (s.ownDelivery n).dlk.reports = s.dlk.reports := by
  simp only [State.ownDelivery]; (repeat' split) <;> simp
@[simp] theorem State.noticeExpiry_reports (s : State) : s.noticeExpiry.dlk.reports = s.dlk.reports := by
  rw [State.noticeExpiry_eq]; rfl
@[simp] theorem State.roundEnds_reports (s : State) : s.roundEnds.dlk.reports = s.dlk.reports := by
  simp only [State.roundEnds, State.completeRound]; (repeat' split) <;> simp

/-! ### The sequencer, sections, samples and the loader (R77, R114 to R129, R134 to R142, R168 to R171) -/

theorem State.enterPsq_reports (s : State) (st : PsqState) : (s.enterPsq st).dlk.reports = s.dlk.reports := by
  rw [State.enterPsq_dlk]; rfl
@[simp] theorem State.enterCutting_reports (s : State) : s.enterCutting.dlk.reports = s.dlk.reports := by
  simp only [State.enterCutting]; split <;> simp only [State.enterPsq_reports]
@[simp] theorem State.enterRetracting_reports (s : State) : s.enterRetracting.dlk.reports = s.dlk.reports := by
  simp only [State.enterRetracting]; split <;> simp only [State.enterPsq_reports]
@[simp] theorem State.downLimitEdge_reports (s : State) (level : Bool) :
    (s.downLimitEdge level).dlk.reports = s.dlk.reports := by
  simp only [State.downLimitEdge, State.downLimitReached]; (repeat' split) <;> simp only [State.enterPsq_reports]
@[simp] theorem State.rampStep_reports (s : State) : s.rampStep.dlk.reports = s.dlk.reports := by
  simp only [State.rampStep, State.handZero]
  split
  · exact (State.enterPsq_reports ..).trans (by simp)
  · simp
@[simp] theorem State.triggerIfSectionMoved_reports (s before : State) :
    (s.triggerIfSectionMoved before).dlk.reports = s.dlk.reports := by
  simp only [State.triggerIfSectionMoved, State.triggerStatusIf_reports]
@[simp] theorem State.changeSection_reports (s : State) (p : PilotCode) :
    (s.changeSection p).dlk.reports = s.dlk.reports := by
  simp only [State.changeSection]; split <;> simp
@[simp] theorem State.windowEnds_reports (s : State) (result : Option PilotCode) :
    (s.windowEnds result).dlk.reports = s.dlk.reports := by
  simp only [State.windowEnds, State.windowCode, State.establish, State.pilotReturned, State.windowNone]
  (repeat' split) <;> simp
@[simp] theorem State.takeCurrent_reports (s : State) (current : Int) :
    (s.takeCurrent current).dlk.reports = s.dlk.reports := by
  simp only [State.takeCurrent, State.judgeRaised, State.judgeClear]; (repeat' split) <;> simp
@[simp] theorem State.judgeBlock_reports (s : State) (block : List Byte) :
    (s.judgeBlock block).dlk.reports = s.dlk.reports := by
  simp only [State.judgeBlock, State.halt]; (repeat' split) <;> rfl
@[simp] theorem State.enterReady_reports (s : State) : s.enterReady.dlk.reports = s.dlk.reports := by
  rw [State.enterReady_eq]
  split
  · rfl
  · exact State.enterPsq_reports ..

/-! ### Frames (R156 to R160) -/

@[simp] theorem State.refuse_reports (s : State) (ty : Byte) (r : RefuseReason) :
    (s.refuse ty r).dlk.reports = s.dlk.reports := by
  unfold State.refuse; split <;> rfl
@[simp] theorem State.demandFrame_reports (s : State) (payload : List Byte) :
    (s.demandFrame payload).dlk.reports = s.dlk.reports := by
  unfold State.demandFrame
  split
  · exact State.refuse_reports ..
  · rw [State.takeDemand_dlk]; rfl
@[simp] theorem State.raiseFrame_reports (s : State) : s.raiseFrame.dlk.reports = s.dlk.reports := by
  unfold State.raiseFrame
  split
  · exact State.enterPsq_reports ..
  · rfl
  · exact State.refuse_reports ..
@[simp] theorem State.lowerFrame_reports (s : State) : s.lowerFrame.dlk.reports = s.dlk.reports := by
  have taken : s.lowerTaken.dlk.reports = s.dlk.reports := by
    unfold State.lowerTaken
    split <;> simp only [State.enterRetracting_reports, State.enterCutting_reports, State.enterPsq_reports]
  unfold State.lowerFrame
  split
  · exact taken
  · rfl
  · exact State.refuse_reports ..

/-- A frame end leaves the sticky faults and the frame being sent where its frame does (R157). -/
theorem State.examine_reports {s : State} {act : List Byte → State → State}
    (taken : ∀ payload, (act payload s).dlk.reports = s.dlk.reports) : (s.examine act).dlk.reports = s.dlk.reports :=
  State.examine_keeps (P := fun u => u.dlk.reports = s.dlk.reports) (fun _ kept => kept) rfl (fun _ _ => by simp) taken

/-! ## What may set a sticky fault (R130, R164) -/

/-- An operation sets at most this sticky fault, and leaves the frame being sent (R164). -/
def State.MaySet (s : State) (f : StickyFault) (u : State) : Prop :=
  u.dlk.reports = s.dlk.reports ∨ u.dlk.reports = (s.dlk.sticky.put f, s.dlk.sending)

namespace State.MaySet

variable {s u v : State} {f : StickyFault}

/-- A request for the fault, and operations around it that request none. -/
theorem of_setSticky (before : u.dlk.reports = s.dlk.reports) (after : v.dlk.reports = (u.setSticky f).dlk.reports) :
    s.MaySet f v := by
  obtain ⟨sticky, sending⟩ := Prod.mk.inj before
  exact .inr (after.trans (by rw [← sticky, ← sending]; rfl))

theorem from_same (sets : u.MaySet f v) (before : u.dlk.reports = s.dlk.reports) : s.MaySet f v :=
  sets.elim (fun same => .inl (same.trans before)) (.of_setSticky before)

theorem to_same (sets : s.MaySet f u) (after : v.dlk.reports = u.dlk.reports) : s.MaySet f v :=
  sets.imp after.trans after.trans

/-- The third loss of contact in PRECHARGE sets PRECHARGE_FAIL (R120). -/
theorem contactLost (s : State) : s.MaySet .prechargeFail s.contactLost := by
  have moved (u : State) : u.MaySet .prechargeFail u.psqContactLost := by
    unfold State.psqContactLost
    split
    · exact .inl (State.enterPsq_reports ..)
    · exact .inl (State.enterPsq_reports ..)
    · dsimp only
      split
      · exact .inl (State.enterPsq_reports ..)
      · exact of_setSticky rfl (State.enterPsq_reports ..)
    · exact .inl rfl
  exact ((moved s.abortNotice).from_same (by simp)).to_same rfl

/-- A contact return in RAISING below the working range sets RAISE_FAIL (R119). -/
theorem contactReturned (s : State) : s.MaySet .raiseFail s.contactReturned := by
  have moved : s.MaySet .raiseFail s.psqContactReturned := by
    unfold State.psqContactReturned
    split
    · split
      · exact .inl (State.enterPsq_reports ..)
      · exact of_setSticky rfl (State.enterPsq_reports ..)
    · exact .inl (State.enterPsq_reports ..)
    · exact .inl (State.enterPsq_reports ..)
    · exact .inl rfl
  unfold State.contactReturned
  dsimp only
  split
  · exact moved.to_same (by simp)
  · exact moved

/-- An edge of the contact filter that accepts a level (R116). -/
theorem contactEdge (s : State) (level : Bool) :
    s.MaySet (if level then .raiseFail else .prechargeFail) (s.contactEdge level) := by
  cases level <;> simp only [State.contactEdge, Bool.false_eq_true, if_false, if_true]
  case false =>
    split
    · exact (contactLost _).from_same rfl
    · exact .inl rfl
  case true =>
    split
    · exact (contactReturned _).from_same rfl
    · exact .inl rfl

/-- The trip threshold sets ARC_TRIP (R129). -/
theorem ringAdvances (s : State) : s.MaySet .arcTrip s.ringAdvances := by
  have compared (u : State) : u.MaySet .arcTrip u.compareArc := by
    have warned (warn : Bool) : (u.warned warn).dlk.reports = u.dlk.reports := by
      unfold State.warned
      dsimp only
      split <;> simp
    obtain ⟨judges, trips⟩ := u.compareArc_cases
    by_cases below : u.psq.arcSum < u.cfg.arcTrip
    · rw [judges below]
      exact .inl (warned _)
    · by_cases engaged : u.psq.state = .engaged
      · rw [(trips (Nat.not_lt.mp below)).1 engaged]
        exact of_setSticky rfl (State.enterCutting_reports _)
      · rw [(trips (Nat.not_lt.mp below)).2 engaged]
        exact of_setSticky (warned true) rfl
  set timed : State := { s with psq := { s.psq with ringTimer := s.psq.ringTimer.reload 125 } } with htimed
  simp only [State.ringAdvances, ← htimed]
  split
  · exact ((compared timed).from_same rfl).to_same rfl
  · exact .inl rfl

/-- A precharge time's expiry under the stow condition sets LINK_SILENT (R120). -/
theorem prechargeDone (s : State) : s.MaySet .linkSilent s.prechargeDone := by
  unfold State.prechargeDone
  split
  · exact of_setSticky rfl (State.enterPsq_reports ..)
  · exact .inl (State.enterPsq_reports ..)

/-- The stow timer's expiry in ENGAGED sets LINK_SILENT (R121). -/
theorem standStow (s : State) : s.MaySet .linkSilent s.standStow := by
  unfold State.standStow
  dsimp only
  split
  · exact of_setSticky rfl (State.enterCutting_reports _)
  · exact .inl rfl

/-- A notice from a peer channel that bears the own station id sets ID_SEEN_ELSEWHERE (R28). -/
theorem checkRecord (s : State) (ch : Channel) (bits : List Bool) :
    s.MaySet .idSeenElsewhere (s.checkRecord ch bits) := by
  have peer (n : Notice) : s.MaySet .idSeenElsewhere (s.peerDelivery ch n) := by
    unfold State.peerDelivery
    split
    · exact of_setSticky rfl rfl
    · exact .inl rfl
  unfold State.checkRecord
  dsimp only
  split
  · exact .inl rfl
  · split
    · exact .inl (by simp)
    · split
      · exact .inl rfl
      · split
        · exact .inl (by simp)
        · exact peer _

/-- A decision may complete a record; no other decision sets a fault (R9 to R11). -/
theorem decideSymbol (s : State) (ch : Channel) (d : Symbol) : s.MaySet .idSeenElsewhere (s.decideSymbol ch d) := by
  unfold State.decideSymbol
  dsimp only
  split
  · split
    · exact .inl (by simp)
    · exact .inl rfl
  · (repeat' split) <;> exact .inl (by simp)
  · split
    · exact .inl (by simp)
    · split
      · exact (checkRecord ..).from_same rfl
      · exact .inl rfl

end State.MaySet

/-- A decision in HUNT or one of NONE completes no record (R9, R11). -/
theorem State.decideSymbol_reports {s : State} {ch : Channel} {d : Symbol}
    (noRecord : (s.crx.contexts[ch]).state = .hunt ∨ d = .silent) :
    (s.decideSymbol ch d).dlk.reports = s.dlk.reports := by
  rcases noRecord with hunt | rfl
  · unfold State.decideSymbol
    simp only [hunt]
    split <;> simp
  · unfold State.decideSymbol
    simp only [Symbol.bit]
    (repeat' split) <;> simp

/-- The commands at whose events each sticky fault joins the set (R130, R164). -/
def StickyFault.joinsAt (f : StickyFault) (c : Instr) : Prop :=
  match f with
  | .raiseFail => c = .raiseTimeout ∨ c = .contactReturn ∨ c = .filterEdge .contact true
  | .prechargeFail => c = .contactLoss ∨ c = .filterEdge .contact false
  | .arcTrip => c = .ringAdvance
  | .linkSilent => c = .silenceTimerExpiry ∨ c = .stowTimerExpiry ∨ c = .prechargeExpiry
  | .dropoutTimeout => c = .reacquireExpiry
  | .stuckUp => c = .retractTimeout
  | .falseGap => c = .graceExpiry
  | .idSeenElsewhere => ∃ ch : Channel, (∃ mark : Bool, c = .noticeReceived ch mark) ∨
      ∃ steady passing : List Component, c = .symbolDecision ch steady passing

/-- Everything that a command's effect can do to the sticky faults and to the frame being sent. -/
inductive EffectReports (c : Instr) (s u : State) : Prop
  | same (reports : u.dlk.reports = s.dlk.reports)
  | sets (f : StickyFault) (joins : f.joinsAt c) (sets : s.MaySet f u)
  | free (isFree : c = .transmitterFree) (sticky : u.dlk.sticky = s.dlk.sticky)
  | reset (isReset : resets c = true) (sticky : u.dlk.sticky = .empty)

/-- A RESTART frame resets DLK where it is taken, and sets no fault where it is refused (R155, R160). -/
theorem restart_reports (s : State) (raw : RawInputs) :
    EffectReports (.restart raw) s (effectOf (.restart raw) s) := by
  rcases State.examine_cases s (fun _ u => u.restartFrame raw) with ⟨-, e⟩ | ⟨ty, -, -, ⟨r, -, e⟩ | ⟨-, -, e⟩⟩ <;>
    rw [effectOf, e]
  · exact .same rfl
  · exact .same (State.refuse_reports ..)
  · unfold State.restartFrame
    split
    · exact .reset rfl rfl
    · exact .same (State.refuse_reports ..)

/-- What each command does to the sticky faults, said once (R130, R161, R164). -/
theorem effectOf_reports {c : Instr} {s : State} (occurs : occursAt c s = true) : EffectReports c s (effectOf c s) := by
  have edge (input : FilterId) (level : Bool) (c : Instr)
      (joins : input = .contact → (if level then StickyFault.raiseFail else .prechargeFail).joinsAt c) :
      EffectReports c s (s.filterEdge input level) := by
    cases input with
    | contact => exact .sets _ (joins rfl) (.contactEdge s level)
    | upLimit => exact .same rfl
    | downLimit => exact .same (s.downLimitEdge_reports level)
  cases c
  case transmitterFree => exact .free rfl rfl
  case restart raw => exact restart_reports s raw
  case contactLoss => exact edge .contact false _ fun _ => .inl rfl
  case contactReturn => exact edge .contact true _ fun _ => .inr (.inl rfl)
  case filterEdge input level =>
    refine edge input level _ fun contact => ?_
    subst contact
    cases level with
    | true => exact .inr (.inr rfl)
    | false => exact .inr rfl
  case raiseTimeout =>
    exact .sets .raiseFail (.inl rfl) (.of_setSticky rfl (State.enterRetracting_reports _))
  case prechargeExpiry => exact .sets .linkSilent (.inr (.inr rfl)) (.prechargeDone s)
  case reacquireExpiry => exact .sets .dropoutTimeout rfl (.of_setSticky rfl (State.enterPsq_reports ..))
  case retractTimeout => exact .sets .stuckUp rfl (.of_setSticky rfl (State.enterPsq_reports ..))
  case ringAdvance => exact .sets .arcTrip rfl (.ringAdvances s)
  case graceExpiry => exact .sets .falseGap rfl (.of_setSticky (u := s) rfl (by simp [effectOf, State.falseGap]))
  case silenceTimerExpiry =>
    refine .sets .linkSilent (.inl rfl) (.of_setSticky (u := s) rfl ?_)
    simp only [effectOf, State.beginSilence, State.recompose_frame]
    rfl
  case stowTimerExpiry => exact .sets .linkSilent (.inr (.inl rfl)) (.standStow s)
  case noticeReceived ch mark => exact .sets .idSeenElsewhere ⟨ch, .inl ⟨mark, rfl⟩⟩ (.decideSymbol ..)
  case symbolDecision ch steady passing =>
    exact .sets .idSeenElsewhere ⟨ch, .inr ⟨steady, passing, rfl⟩⟩ (.decideSymbol ..)
  all_goals refine .same ?_
  case syncEntry ch =>
    simp only [occursAt, Bool.and_eq_true, beq_iff_eq] at occurs
    exact State.decideSymbol_reports (.inl occurs.1.2)
  case frameAbandon ch => exact State.decideSymbol_reports (.inr rfl)
  case downLimit => exact s.downLimitEdge_reports true
  case demand => exact State.examine_reports fun payload => s.demandFrame_reports payload
  case pantoRaise => exact State.examine_reports fun _ => s.raiseFrame_reports
  case pantoLower => exact State.examine_reports fun _ => s.lowerFrame_reports
  case pantoBadValue => exact State.examine_reports fun _ => s.refuse_reports ..
  case gap => exact State.examine_reports fun _ => by simp
  case query => exact State.examine_reports fun _ => rfl
  case frameDropped => exact State.examine_reports (act := fun _ u => u) fun _ => rfl
  case coastExpiry => exact State.enterPsq_reports ..
  case limitTimerExpiry | byteReceived | restartTimerStart => rfl
  all_goals simp [effectOf, State.endRejoin]

/-! ## The law of the sticky faults (R130, R164) -/

namespace EffectReports

variable {c : Instr} {s u : State} {f : StickyFault}

/-- No effect but a reset's takes a fault from the set (R164). -/
theorem keeps (effect : EffectReports c s u) (other : resets c = false) (stood : s.dlk.sticky.has f = true) :
    u.dlk.sticky.has f = true := by
  cases effect with
  | same reports => rw [(Prod.mk.inj reports).1, stood]
  | sets g _ sets =>
    rcases sets with reports | reports
    · rw [(Prod.mk.inj reports).1, stood]
    · rw [(Prod.mk.inj reports).1, StickySet.has_put, stood, Bool.or_true]
  | free _ sticky => rw [sticky, stood]
  | reset isReset => rw [isReset] at other; cases other

/-- A fault that an effect puts in the set is one that joins at its event (R130, R164). -/
theorem joins (effect : EffectReports c s u) (absent : s.dlk.sticky.has f = false)
    (stands : u.dlk.sticky.has f = true) : f.joinsAt c := by
  have same (sticky : u.dlk.sticky = s.dlk.sticky) : f.joinsAt c := by
    rw [sticky, absent] at stands; cases stands
  cases effect with
  | same reports => exact same (Prod.mk.inj reports).1
  | sets g joins sets =>
    rcases sets with reports | reports
    · exact same (Prod.mk.inj reports).1
    · rw [(Prod.mk.inj reports).1, StickySet.has_put, absent, Bool.or_false, decide_eq_true_eq] at stands
      exact stands ▸ joins
  | free _ sticky => exact same sticky
  | reset _ sticky => rw [sticky] at stands; cases f <;> cases stands

/-- Only the end of a frame, or a reset, frees the transmitter (R161). -/
theorem frees (effect : EffectReports c s u) (other : resets c = false) (free : u.dlk.sending = none) :
    s.dlk.sending = none ∨ c = .transmitterFree := by
  cases effect with
  | same reports => exact .inl ((Prod.mk.inj reports).2.symm.trans free)
  | sets g _ sets => exact .inl (sets.elim (fun reports => (Prod.mk.inj reports).2.symm.trans free)
      fun reports => (Prod.mk.inj reports).2.symm.trans free)
  | free isFree => exact .inr isFree
  | reset isReset => rw [isReset] at other; cases other

end EffectReports

/-- The transmitter's choice leaves the sticky faults, or an IDLE transmitter starts the STATUS that reports them all
and empties the set (R161, R163, R164). -/
theorem State.settle_sticky (s : State) : s.settle.dlk.sticky = s.dlk.sticky ∨
    (s.dlk.sending = none ∧ s.settle.dlk.sticky = .empty ∧ s.settle.dlk.statusPending = false ∧
      ∃ sent : Sending, s.settle.dlk.sending = some sent ∧ sent.frame = .status s.statusFrame ∧
        sent.startedAt = s.instant) := by
  rcases s.settle_cases with ⟨-, e⟩ | ⟨-, f, -, e⟩ | ⟨-, -, ty, r, rest, -, e⟩ | ⟨idle, -, -, -, e⟩ |
    ⟨-, -, -, -, e⟩ <;> rw [e]
  · exact .inl rfl
  · exact .inl rfl
  · exact .inl rfl
  · exact .inr ⟨idle, rfl, rfl, _, rfl, rfl, rfl⟩
  · exact .inl rfl

/-- Settles O51: an effect only adds the faults of its event, and the choice after it only empties the set into a
STATUS. -/
theorem stickyFaultsLeaveByReport : Obligations.StickyFaultsLeaveByReport := by
  intro c s t f hx
  rcases exec_answers_or_resets hx with rfl | ⟨reset, -, -, cause, dlk⟩ | ⟨occurs, rfl⟩
  · exact ⟨fun stood left => absurd (stood.symm.trans left) Bool.true_eq_false.mp,
      fun stood left => absurd (stood.symm.trans left) Bool.true_eq_false.mp,
      fun absent stands => absurd (stands.symm.trans absent) Bool.true_eq_false.mp⟩
  · have empty : t.dlk.sticky.has f = false := by rw [dlk]; cases f <;> rfl
    exact ⟨fun _ _ other => absurd (reset.symm.trans other) Bool.true_eq_false.mp,
      fun _ _ other => absurd (reset.symm.trans other) Bool.true_eq_false.mp,
      fun _ stands => absurd (stands.symm.trans empty) Bool.true_eq_false.mp⟩
  · have effect := effectOf_reports occurs
    set u := effectOf c s with hu
    have instant : u.instant = s.instant := by rw [State.instant, hu, effectOf_tmb]; rfl
    have composed (stood : s.dlk.sticky.has f = true) (left : u.settle.dlk.sticky.has f = false)
        (other : resets c = false) := u.settle_sticky.resolve_left fun kept => by
      rw [kept, effect.keeps other stood] at left; cases left
    refine ⟨fun stood left other => ?_, fun stood left other => ?_, fun absent stands => ?_⟩
    · obtain ⟨idle, -⟩ := composed stood left other
      exact (effect.frees other idle).imp (fun free => by rw [free]; rfl) id
    · obtain ⟨-, -, served, sent, sending, frame, started⟩ := composed stood left other
      exact ⟨sent, u.statusFrame, sending, frame, started.trans instant, effect.keeps other stood, served⟩
    · have joins : f.joinsAt c := by
        rcases u.settle_sticky with kept | ⟨-, empty, -⟩
        · exact effect.joins absent (kept ▸ stands)
        · rw [empty] at stands; cases f <;> cases stands
      cases f <;> exact joins

end Sys2Proof.Machine
end

section
/-! PROOFS. Section identity: pilot windows, establishment, section changes and the loss of the pilot (R132 to R139,
R146, R147, R163). -/

namespace Sys2Proof.Machine

/-! ## What a pilot window yields (R133) -/

/-- A component above the threshold throughout, with its mean frequency in a band, yields the band's code; no two bands
meet (R133). -/
theorem pilotCodeOf_of_band {p f : Nat} (code : p < 8) (low : 1440000 + 250000 * p ≤ f)
    (high : f ≤ 1560000 + 250000 * p) : pilotCodeOf true f = some (BitVec.ofNat 3 p) := by
  have found : (List.range 8).find? (fun q =>
      decide (1440000 + 250000 * q ≤ f) && decide (f ≤ 1560000 + 250000 * q)) = some p := by
    refine List.find?_range_eq_some.mpr ⟨by simp [low, high], List.mem_range.mpr code, fun q before => ?_⟩
    have above : ¬f ≤ 1560000 + 250000 * q := by omega
    simp [above]
  rw [pilotCodeOf, if_pos rfl, found, Option.map_some]

/-- A mean frequency outside every band yields none (R133). -/
theorem pilotCodeOf_of_no_band {f : Nat}
    (outside : ∀ p : Nat, p < 8 → ¬(1440000 + 250000 * p ≤ f ∧ f ≤ 1560000 + 250000 * p)) :
    pilotCodeOf true f = none := by
  have missed : (List.range 8).find? (fun p =>
      decide (1440000 + 250000 * p ≤ f) && decide (f ≤ 1560000 + 250000 * p)) = none :=
    List.find?_eq_none.mpr fun p code => by simpa using outside p (List.mem_range.mp code)
  rw [pilotCodeOf, if_pos rfl, missed, Option.map_none]

/-! ## Windows that yield a code (R134) -/

section

variable {s : State} {p : PilotCode}

/-- Another code becomes the candidate, at its first window (R134). -/
theorem State.windowCode_of_other (other : s.sgm.candidate ≠ some p) :
    s.windowCode p = { s with sgm := { s.sgm with candidate := some p, stability := 1, noneCount := 0 } } :=
  if_neg other

/-- The candidate's third window establishes it (R134). -/
theorem State.windowCode_of_third (same : s.sgm.candidate = some p) (second : s.sgm.stability = 2) :
    s.windowCode p = State.establish { s with sgm := { s.sgm with stability := 3, noneCount := 0 } } p := by
  simp [State.windowCode, same, second, saturate]

/-- The candidate's other windows count up to 3 (R134). -/
theorem State.windowCode_of_counted (same : s.sgm.candidate = some p) (notSecond : s.sgm.stability ≠ 2) :
    s.windowCode p =
      { s with sgm := { s.sgm with stability := min 3 (s.sgm.stability + 1), noneCount := 0 } } := by
  have notThird : ¬(s.sgm.stability < 3 ∧ saturate 3 s.sgm.stability = 3) := by unfold saturate; omega
  rw [State.windowCode, if_pos same, if_neg notThird]
  rfl

end

/-! ## Section moves (R132, R163) -/

/-- A section index or section-known flag that moved is a STATUS trigger, as one update (R163). -/
theorem State.triggerIfSectionMoved_eq (s before : State) : s.triggerIfSectionMoved before = { s with
    dlk := { s.dlk with statusPending := s.dlk.statusPending ||
      (decide (s.sectionIndex ≠ before.sectionIndex) || decide (s.sectionKnown ≠ before.sectionKnown)) } } := by
  rw [State.triggerIfSectionMoved, State.triggerStatusIf_eq]

/-- While the pilot is lost the section is not known (R132). -/
theorem State.sectionKnown_of_lost {s : State} (lost : s.sgm.lost = true) : s.sectionKnown = false := by
  unfold State.sectionKnown
  split
  · rfl
  · rw [lost, Bool.not_true, Bool.and_false]

/-- With the pilot there, the section is known where the table has a record of the current code (R132). -/
theorem State.sectionKnown_of_code {s : State} {p : PilotCode} (current : s.sgm.currentCode = some p)
    (heard : s.sgm.lost = false) : s.sectionKnown = (s.cfg.sectionOf p).isSome := by
  simp [State.sectionKnown, current, heard]

/-! ## Windows that yield none (R134, R138) -/

/-- SGM at a window that yields none (R134). -/
def Sgm.silent (g : Sgm) : Sgm := { g with candidate := none, stability := 0, noneCount := min 50 (g.noneCount + 1) }

/-- The none count of the silent windows that lose a pilot is reached with the pilot still there (R138). -/
def State.LosesPilot (s : State) : Prop := s.sgm.lost = false ∧ s.cfg.silentWindows ≤ s.sgm.silent.noneCount

/-- A silent window that loses no pilot (R134). -/
theorem State.windowNone_of_not_loses {s : State} (keeps : ¬s.LosesPilot) :
    s.windowNone = { s with sgm := s.sgm.silent } :=
  if_neg fun loses => keeps loses.symm

/-- A silent window that loses the pilot: PILOT_LOST is raised, and a section that was known is so no more (R138, R146,
R163). -/
theorem State.windowNone_of_loses {s : State} (loses : s.LosesPilot) : s.windowNone = { s with
    sgm := { s.sgm.silent with lost := true }, cfm := s.cfm.raise .pilotLost,
    dlk := { s.dlk with
      statusPending := s.dlk.statusPending || s.sectionKnown ||
        decide ((s.cfm.raise .pilotLost).level ≠ s.cfm.level) } } := by
  set lost : State := { s with sgm := { s.sgm.silent with lost := true } } with hl
  have ends : s.windowNone = (lost.raiseCause .pilotLost).triggerIfSectionMoved s := if_pos loses.symm
  have index : (lost.raiseCause .pilotLost).sectionIndex = s.sectionIndex := by
    rw [State.raiseCause_eq]
    rfl
  have unknown : (lost.raiseCause .pilotLost).sectionKnown = false :=
    State.sectionKnown_of_lost (by rw [State.raiseCause_eq])
  rw [ends, State.triggerIfSectionMoved_eq, index, unknown, State.raiseCause_eq]
  cases s.sectionKnown <;> simp [hl, Bool.or_comm]

/-- A pilot window's end at its timer's expiry (R133). -/
theorem exec_pilotWindowEnd {s : State} {due : Tick} (running : s.held = false) (timer : s.crx.pilotEnd = some due)
    (come : reached s.now due = true) (above : Bool) (f : Nat) :
    exec (.pilotWindowEnd above f) s = .next (s.windowEnds (pilotCodeOf above f)).settle :=
  exec_of_occurs (c := .pilotWindowEnd above f) rfl running ((Timer.due_iff ..).mpr ⟨due, timer, come⟩)

/-- Settles O44: the window's yield by its band, then the candidate, or the none count. -/
theorem pilotWindows : Obligations.PilotWindows := by
  intro s due running timer come timed silent loses asNone
  have reloaded : s.crx.pilotEnd.reload 100 = some (due + 100) := by rw [timer]; rfl
  have windowed (above : Bool) (f : Nat) := exec_pilotWindowEnd running timer come above f
  have yieldsCode (p : PilotCode) : s.windowEnds (some p) = (timed s.sgm).windowCode p := by
    simp only [State.windowEnds, reloaded, timed]
  have yieldsNone : s.windowEnds none = (timed s.sgm).windowNone := by
    simp only [State.windowEnds, reloaded, timed]
  have silence (above : Bool) (f : Nat) (nothing : pilotCodeOf above f = none) : asNone (.pilotWindowEnd above f) := by
    have answers := windowed above f
    rw [nothing, yieldsNone] at answers
    refine ⟨fun keeps => ?_, fun lost => ?_⟩
    · rw [answers, State.windowNone_of_not_loses (s := timed s.sgm) keeps]
      rfl
    · rw [answers, State.windowNone_of_loses (s := timed s.sgm) lost]
      rfl
  refine ⟨fun p f inRange low high => ?_, fun f outside => silence true f (pilotCodeOf_of_no_band outside),
    fun f => silence false f rfl⟩
  intro code after
  have answers := windowed true f
  rw [pilotCodeOf_of_band inRange low high, yieldsCode] at answers
  have counted : (timed s.sgm).sgm.stability = s.sgm.stability := rfl
  refine ⟨fun other => ?_, fun same few => ?_, fun same second => ?_, fun same many => ?_⟩
  · rwa [State.windowCode_of_other (s := timed s.sgm) other] at answers
  · rw [State.windowCode_of_counted (s := timed s.sgm) same (by omega), counted, min_eq_right (by omega)] at answers
    exact answers
  · rwa [State.windowCode_of_third (s := timed s.sgm) same second] at answers
  · rw [State.windowCode_of_counted (s := timed s.sgm) same (by omega), counted, min_eq_left (by omega)] at answers
    exact answers

/-! ## The pilot's return, and a section change (R135, R136) -/

/-- The pilot's return on the same section ends its loss, and a section of the table is known again (R135, R146,
R163). -/
theorem State.pilotReturned_of_lost {s : State} {p : PilotCode} (current : s.sgm.currentCode = some p)
    (lost : s.sgm.lost = true) : s.pilotReturned = { s with
      sgm := { s.sgm with lost := false }, cfm := s.cfm.clear .pilotLost,
      dlk := { s.dlk with statusPending := s.dlk.statusPending || (s.cfg.sectionOf p).isSome } } := by
  set heard : State := { s with sgm := { s.sgm with lost := false } } with hh
  have index : (heard.clearCause .pilotLost).sectionIndex = s.sectionIndex := by
    rw [State.clearCause_eq]
    rfl
  have known : (heard.clearCause .pilotLost).sectionKnown = (s.cfg.sectionOf p).isSome := by
    rw [State.clearCause_eq]
    exact State.sectionKnown_of_code current rfl
  rw [State.pilotReturned, if_pos lost, ← hh, State.triggerIfSectionMoved_eq, index, known,
    State.sectionKnown_of_lost lost, State.clearCause_eq]
  cases (s.cfg.sectionOf p).isSome <;> simp [hh]

/-- A raise at SOLO, the most severe level, leaves the level (R145, R147). -/
theorem Cfm.raise_level_of_solo {m : Cfm} (solo : m.level = .solo) (c : Cause) : (m.raise c).level = .solo := by
  have most (l : Level) : ¬Level.solo.severity < l.severity := by cases l <;> decide
  rw [Cfm.raise_level, solo, if_neg (most _)]

/-- REJOIN requires SOLO (R146, R147). -/
theorem Cfm.raise_rejoin_level (m : Cfm) : (m.raise .rejoin).level = .solo := by
  have required : (m.causes.put true .rejoin).required = .solo := by simp [Causes.required, Causes.put]
  rw [Cfm.raise_level, required]
  cases m.level <;> rfl

/-- A raise of REJOIN is a STATUS trigger where the level was not SOLO (R147, R163). -/
theorem State.raiseCause_rejoin_eq (s : State) : s.raiseCause .rejoin = { s with
    cfm := s.cfm.raise .rejoin,
    dlk := { s.dlk with statusPending := s.dlk.statusPending || decide (s.cfm.level ≠ .solo) } } := by
  simp only [State.raiseCause_eq, Cfm.raise_rejoin_level, ne_comm (a := Level.solo)]

/-- CFM at a section change to a section that the table holds or not: REJOIN raised, PILOT_LOST cleared, and
SECTION_UNKNOWN by the table (R136). -/
def Cfm.atSectionChange (m : Cfm) (known : Bool) : Cfm :=
  ((m.raise .rejoin).clear .pilotLost).report .sectionUnknown !known

/-- A section change leaves the level at SOLO (R136, R147). -/
theorem Cfm.atSectionChange_level (m : Cfm) (known : Bool) : (m.atSectionChange known).level = .solo := by
  cases known
  · exact Cfm.raise_level_of_solo (m := (m.raise .rejoin).clear .pilotLost) m.raise_rejoin_level .sectionUnknown
  · exact m.raise_rejoin_level

/-- A section change before the gap is disarmed: the new identity, the flush, the rejoin timer, the causes, and the
STATUS triggers of the section and of the level (R136, R163). -/
def State.sectionChanged (s : State) (p : PilotCode) : State :=
  let known := (s.cfg.sectionOf p).isSome
  { s with
    sgm := { s.sgm with
      currentCode := some p, lost := false, rejoinTimer := some (s.now + BitVec.ofNat 32 (2 * s.cfg.period)) },
    ptb := { s.ptb with slots := Vector.replicate 16 none },
    cfm := s.cfm.atSectionChange known,
    dlk := { s.dlk with
      statusPending := s.dlk.statusPending || decide (p ≠ s.sectionIndex) || decide (known ≠ s.sectionKnown) ||
        decide (s.cfm.level ≠ .solo) } }

/-- A section change is that update, and disarms an armed gap (R136). -/
theorem State.changeSection_eq (s : State) (p : PilotCode) : s.changeSection p =
    if s.sgm.armed then (s.sectionChanged p).disarmGap else s.sectionChanged p := by
  set renamed : State := { s with sgm := { s.sgm with currentCode := some p, lost := false } }
  set s2 := (renamed.triggerIfSectionMoved s).flushPeers.raiseCause .rejoin with h2
  set s4 := (s2.withSgm { s2.sgm with rejoinTimer := .start s2.now (2 * s2.cfg.period) }).clearCause .pilotLost with h4
  set s5 := s4.reportCause .sectionUnknown (s4.cfg.sectionOf p).isNone with h5
  have changes : s.changeSection p = if s5.sgm.armed then s5.disarmGap else s5 := rfl
  have index : renamed.sectionIndex = p := rfl
  have known : renamed.sectionKnown = (s.cfg.sectionOf p).isSome := State.sectionKnown_of_code rfl rfl
  rw [State.triggerIfSectionMoved_eq, index, known, State.raiseCause_rejoin_eq] at h2
  rw [State.clearCause_eq] at h4
  have caused : s4.cfm = (s.cfm.raise .rejoin).clear .pilotLost := by rw [h4, h2]; rfl
  have reported : s.cfm.atSectionChange (s.cfg.sectionOf p).isSome =
      s4.cfm.report .sectionUnknown (s.cfg.sectionOf p).isNone := by
    rw [caused, Cfm.atSectionChange, Option.not_isSome]
  have image : s4.cfg = s.cfg := by rw [h4, h2]; rfl
  have updated : s5 = s.sectionChanged p := by
    have solo := s.cfm.atSectionChange_level (s.cfg.sectionOf p).isSome
    have before : s4.cfm.level = .solo := by rw [caused]; exact s.cfm.raise_rejoin_level
    rw [h5, State.reportCause_eq, State.withCfm_eq, image, ← reported, solo, before, h4, h2, State.sectionChanged]
    simp [Bool.or_assoc, State.flushPeers, renamed]
    rfl
  rw [changes, updated]
  rfl

/-- The gap is armed in every phase but DISARMED (R132). -/
theorem Sgm.armed_eq (g : Sgm) : g.armed = decide (g.phase ≠ .disarmed) := by
  rw [Sgm.armed]
  cases g.phase <;> rfl

/-- Settles O45: the current code by whether the pilot was lost, any other by whether the gap is armed. -/
theorem sectionEstablishment : Obligations.SectionEstablishment := by
  refine fun s p => ⟨fun same => ?_, fun other => ?_⟩
  · have establishes : s.establish p = s.pilotReturned := if_pos same
    refine ⟨fun heard => ?_, fun lost => ?_⟩
    · rw [establishes, State.pilotReturned, if_neg (by simp [heard])]
    · rw [establishes, State.pilotReturned_of_lost same lost]
      rfl
  · intro known rejoined armed changed
    have causes : s.cfm.atSectionChange known =
        if known then rejoined.clear .sectionUnknown else rejoined.raise .sectionUnknown := by
      cases known <;> rfl
    have moved : { s.sectionChanged p with sgm := changed.sgm } = changed := by
      show { s.sectionChanged p with sgm := changed.sgm, cfm := s.cfm.atSectionChange known } = changed
      rw [causes]
      rfl
    have establishes : s.establish p = if armed && s.sgm.cut then changed.redraw false else changed := by
      rw [State.establish, if_neg other, State.changeSection_eq, Sgm.armed_eq]
      by_cases disarmed : s.sgm.phase = .disarmed
      · have unarmed : armed = false := by simp [armed, disarmed]
        have sgm : changed.sgm = (s.sectionChanged p).sgm := by
          simp [changed, unarmed, State.sectionChanged, disarmed]
        rw [← moved, sgm, if_neg (by simp [disarmed]), unarmed]
        rfl
      · have isArmed : armed = true := by simp [armed, disarmed]
        have sgm : changed.sgm = { (s.sectionChanged p).sgm with
            phase := .disarmed, cut := false, countdown := none, graceTimer := none } := by
          simp [changed, isArmed, State.sectionChanged]
        rw [if_pos (by simp [disarmed]), State.disarmGap_eq, ← sgm, moved, isArmed]
        rfl
    have level : changed.cfm.level = .solo := by
      rw [show changed.cfm = s.cfm.atSectionChange known from causes.symm]
      exact s.cfm.atSectionChange_level known
    have index : changed.sectionIndex = p := rfl
    have isKnown : changed.sectionKnown = known := State.sectionKnown_of_code rfl rfl
    rw [establishes]
    split
    · exact ⟨rfl, by simpa using level, by simpa using index, by simpa using isKnown⟩
    · exact ⟨rfl, level, index, isKnown⟩

end Sys2Proof.Machine
end

section
/-! PROOFS. The rejoin timer, the gap's run-out and false gap, and GAP frames (R139 to R143, R157, R160). -/

namespace Sys2Proof.Machine

/-! ## The rejoin timer, the run-out and a false gap (R139, R142) -/

/-- Settles O46: the rejoin timer, the run-out by the gap's phase, and the false gap's disarming. -/
theorem rejoinAndGapExpiries : Obligations.RejoinAndGapExpiries := by
  refine fun s running => ⟨fun due timer come => ?_, fun c countdown ungraced out => ?_, fun due timer come => ?_⟩
  · have occurs : occursAt .rejoinExpiry s = true := (Timer.due_iff ..).mpr ⟨due, timer, come⟩
    rw [exec_of_occurs rfl running occurs, effectOf, State.endRejoin, State.clearCause_eq]
    rfl
  · intro waiting
    have runsOut (away : s.sgm.phase = .approach ∨ s.sgm.phase = .cut) :
        exec .countdownRunOut s = .next s.countdownRunsOut.settle :=
      exec_of_occurs (c := .countdownRunOut) rfl running
        (s.countdownOut_iff.mpr ⟨away, ungraced, c, countdown, out⟩)
    refine ⟨fun approach => ?_, fun cut => ?_⟩
    · rw [runsOut (.inl approach), State.countdownRunsOut, if_pos approach]
      rfl
    · rw [runsOut (.inr cut), State.countdownRunsOut, if_neg (by simp [cut])]
      rfl
  · intro missed
    have occurs : occursAt .graceExpiry s = true := (Timer.due_iff ..).mpr ⟨due, timer, come⟩
    rw [exec_of_occurs rfl running occurs, effectOf, State.falseGap, State.disarmGap_eq]
    rfl

/-! ## GAP frames (R140, R157, R160) -/

/-- A frame of its type's length passes the checks from READY on (R157). -/
theorem State.examine_of_accepted {s : State} {frameType : Byte} {payload : List Byte}
    (ready : s.cfl.loader = .ready) (frame : s.dlk.rx.frame = some (frameType, payload))
    (length : requiredLength frameType = some payload.length) (act : List Byte → State → State) :
    s.examine act = (act payload s).clearBuffer := by
  have accepted : s.frameRefusal frameType payload = none := by
    simp [State.frameRefusal, State.isReady, ready, length]
  simp only [State.examine, frame, accepted]

/-- A cut in force ends where a new gap record takes its place (R98, R140). -/
theorem State.endGapCut_eq (s : State) (g : Sgm) :
    let ended : State := { s with sgm := { g with cut := false } }
    State.endGapCut { s with sgm := g } = if g.cut then ended.redraw false else ended := by
  intro ended
  simp only [State.endGapCut]
  split
  · rfl
  · next free =>
    have uncut : false = g.cut := by simpa using free
    have kept : { g with cut := false } = g := by rw [uncut]
    simp only [ended, kept]

/-- Settles O47: the frame's clamped distance and speed, then the disarming, or the new countdown. -/
theorem gapFrames : Obligations.GapFrames := by
  intro s d1 d0 v1 v0 running ready idle frame metres speed relieved done
  have isRow := (RxBuffer.row_eq_iff s.dlk.rx .gap).mpr ⟨_, frame, rfl⟩
  have taken : done (s.gapFrame metres speed) := by
    have clamped : State.gapTaken [d1, d0, v1, v0] s = s.gapFrame metres speed := by
      have distance : slice [d1, d0, v1, v0] 0 2 = [d1, d0] := rfl
      have pace : slice [d1, d0, v1, v0] 2 2 = [v1, v0] := rfl
      rw [State.gapTaken, distance, pace, numberOfBytes_pair, numberOfBytes_pair]
      rfl
    have answers : exec .gap s = .next (s.gapFrame metres speed).clearBuffer.settle := by
      rw [exec_of_occurs (c := .gap) rfl running (State.frameEnds_of idle frame isRow), effectOf,
        State.examine_of_accepted ready frame rfl, clamped]
    exact answers
  refine ⟨fun here disarmed => ?_, fun here armed => ?_, fun ahead => ?_⟩
  · rwa [State.gapFrame, if_pos here, Sgm.armed_eq, if_neg (by simp [disarmed])] at taken
  · rwa [State.gapFrame, if_pos here, Sgm.armed_eq, if_pos (by simp [armed]), State.disarmGap_eq] at taken
  · rwa [State.gapFrame, if_neg (by omega), State.endGapCut_eq] at taken

end Sys2Proof.Machine
end

section
/-! PROOFS. Confidence: CFM's answers to raises, clears and publication notices (R145 to R149). -/

namespace Sys2Proof.Machine

/-! ## The required level (R145, R146) -/

theorem Level.eq_of_severity_eq {a b : Level} (same : a.severity = b.severity) : a = b := by
  cases a <;> cases b <;> simp [severity] at same ⊢

/-- Where the required level is the less severe, the step up goes one level (R148). -/
theorem Level.stepUp_severity {required level : Level} (below : required.severity < level.severity) :
    level.stepUp.severity + 1 = level.severity := by
  cases level with
  | full => exact absurd below (Nat.not_lt_zero _)
  | guarded | solo => rfl

/-- A cause that becomes active requires no less (R146). -/
theorem Causes.required_le_put_true (set : Causes) (c : Cause) :
    set.required.severity ≤ (set.put true c).required.severity := by
  cases c <;> grind [Causes.required, Causes.put, Level.severity]

/-- A cause that is cleared requires no more (R146). -/
theorem Causes.required_put_false_le (set : Causes) (c : Cause) :
    (set.put false c).required.severity ≤ set.required.severity := by
  cases c <;> grind [Causes.required, Causes.put, Level.severity]

/-! ## Raises, clears and publication notices at CFM (R147 to R149) -/

/-- A raise that requires a more severe level drops to it (R147). -/
theorem Cfm.raise_of_below {m : Cfm} {c : Cause}
    (below : m.level.severity < (m.causes.put true c).required.severity) : m.raise c =
      { causes := m.causes.put true c, level := (m.causes.put true c).required, recovery := 0 } :=
  if_pos below

/-- Any other raise leaves the level and the recovery count (R147). -/
theorem Cfm.raise_of_not_below {m : Cfm} {c : Cause}
    (enough : ¬m.level.severity < (m.causes.put true c).required.severity) :
    m.raise c = { m with causes := m.causes.put true c } :=
  if_neg enough

/-- A report puts or removes its cause and no other (R66, R67, R146). -/
theorem Cfm.report_causes (m : Cfm) (c : Cause) (active : Bool) :
    (m.report c active).causes = m.causes.put active c := by
  cases active
  · rfl
  · exact m.raise_causes c

section

variable {m : Cfm}

/-- At the required level a publication notice ends the run (R148). -/
theorem Cfm.publication_of_equal (equal : m.causes.required = m.level) (n : Nat) :
    m.publication n = { m with recovery := 0 } := by
  rw [publication, if_neg (by rw [equal]; exact lt_irrefl _), if_pos equal]

/-- The round that ends the run steps the level up (R148). -/
theorem Cfm.publication_steps {n : Nat} (below : m.causes.required.severity < m.level.severity)
    (run : m.recovery + 1 = n) : m.publication n = { m with level := m.level.stepUp, recovery := 0 } := by
  rw [publication, if_pos below, if_pos run]

/-- Any other round of the run is counted (R148). -/
theorem Cfm.publication_counts {n : Nat} (below : m.causes.required.severity < m.level.severity)
    (short : m.recovery + 1 ≠ n) : m.publication n = { m with recovery := m.recovery + 1 } := by
  rw [publication, if_pos below, if_neg short]

/-- With the required level the more severe, which no sound CFM has, a notice does nothing. -/
theorem Cfm.publication_of_above (above : m.level.severity < m.causes.required.severity) (n : Nat) :
    m.publication n = m := by
  have differs : m.causes.required ≠ m.level := fun equal => absurd above (by rw [equal]; exact lt_irrefl _)
  rw [publication, if_neg above.asymm, if_neg differs]

end

/-- The four outcomes of a publication notice (R148). -/
theorem Cfm.publication_cases (m : Cfm) (n : Nat) :
    (m.causes.required = m.level ∧ m.publication n = { m with recovery := 0 }) ∨
    (m.causes.required.severity < m.level.severity ∧ m.recovery + 1 = n ∧
      m.publication n = { m with level := m.level.stepUp, recovery := 0 }) ∨
    (m.causes.required.severity < m.level.severity ∧ m.publication n = { m with recovery := m.recovery + 1 }) ∨
    (m.level.severity < m.causes.required.severity ∧ m.publication n = m) := by
  rcases Nat.lt_trichotomy m.causes.required.severity m.level.severity with below | same | above
  · by_cases run : m.recovery + 1 = n
    · exact .inr (.inl ⟨below, run, publication_steps below run⟩)
    · exact .inr (.inr (.inl ⟨below, publication_counts below run⟩))
  · have equal := Level.eq_of_severity_eq same
    exact .inl ⟨equal, publication_of_equal equal n⟩
  · exact .inr (.inr (.inr ⟨above, publication_of_above above n⟩))

/-! ### The level no less severe than the required level (R148) -/

/-- The law of R148 at CFM. -/
def Cfm.Sound (m : Cfm) : Prop := m.causes.required.severity ≤ m.level.severity

namespace Cfm.Sound

variable {m : Cfm}

/-- A raise brings the law about (R147). -/
theorem raise (m : Cfm) (c : Cause) : (m.raise c).Sound := by
  by_cases below : m.level.severity < (m.causes.put true c).required.severity
  · rw [raise_of_below below]; exact le_rfl
  · rw [raise_of_not_below below]; exact not_lt.mp below

theorem clear (h : m.Sound) (c : Cause) : (m.clear c).Sound := (m.causes.required_put_false_le c).trans h

theorem report (h : m.Sound) (c : Cause) (active : Bool) : (m.report c active).Sound := by
  cases active
  · exact h.clear c
  · exact raise m c

/-- A step up goes no further than the required level (R148). -/
theorem publication (h : m.Sound) (n : Nat) : (m.publication n).Sound := by
  rcases m.publication_cases n with ⟨-, e⟩ | ⟨below, -, e⟩ | ⟨-, e⟩ | ⟨-, e⟩ <;> rw [e]
  · exact h
  · rw [← Level.stepUp_severity below] at below
    exact Nat.le_of_lt_succ below
  · exact h
  · exact h

end Cfm.Sound

/-! ### The level drops to the required level, or stands (R147, R149) -/

/-- From one CFM to another the level drops straight to the required level with the recovery count at 0, or both
stand. -/
inductive Cfm.DropsOrStands (m m' : Cfm) : Prop
  | stands (level : m'.level = m.level) (recovery : m'.recovery = m.recovery)
  | drops (below : m.level.severity < m'.level.severity) (level : m'.level = m'.causes.required)
      (recovery : m'.recovery = 0)

namespace Cfm.DropsOrStands

variable {m m' : Cfm}

theorem refl (m : Cfm) : m.DropsOrStands m := .stands rfl rfl

/-- A raise after a drop drops further or requires the same level. -/
theorem raise (h : m.DropsOrStands m') (c : Cause) : m.DropsOrStands (m'.raise c) := by
  by_cases below : m'.level.severity < (m'.causes.put true c).required.severity
  · rw [raise_of_below below]
    cases h with
    | stands level => exact .drops (level ▸ below) rfl rfl
    | drops dropped => exact .drops (dropped.trans below) rfl rfl
  · rw [raise_of_not_below below]
    cases h with
    | stands level recovery => exact .stands level recovery
    | drops dropped level recovery =>
      have requires := m'.causes.required_le_put_true c
      rw [← level] at requires
      exact .drops dropped (Level.eq_of_severity_eq (requires.antisymm (not_lt.mp below))) recovery

/-- A clear that leaves the required level. -/
theorem clear (h : m.DropsOrStands m') {c : Cause}
    (same : (m'.causes.put false c).required = m'.causes.required) : m.DropsOrStands (m'.clear c) := by
  cases h with
  | stands level recovery => exact .stands level recovery
  | drops dropped level recovery => exact .drops dropped (level.trans same.symm) recovery

/-- SRE's two reports: VOLT_SUSPECT requires no other level than LOSSY (R66, R67, R146). -/
theorem reports (m : Cfm) (lossy suspect : Bool) :
    m.DropsOrStands ((m.report .lossy lossy).report .voltSuspect suspect) := by
  cases lossy with
  | false =>
    have cleared : m.DropsOrStands (m.clear .lossy) := .stands rfl rfl
    cases suspect with
    | false => exact .stands rfl rfl
    | true => exact cleared.raise .voltSuspect
  | true =>
    have raised := (refl m).raise .lossy
    cases suspect with
    | false => exact raised.clear (by simp [Causes.required, Causes.put])
    | true => exact raised.raise .voltSuspect

/-- At a section change REJOIN requires SOLO, whatever the other two causes do (R136, R146). -/
theorem atSectionChange (m : Cfm) (known : Bool) : m.DropsOrStands (m.atSectionChange known) := by
  have cleared : m.DropsOrStands ((m.raise .rejoin).clear .pilotLost) :=
    ((refl m).raise .rejoin).clear (by simp [Causes.required, Causes.put])
  cases known with
  | false => exact cleared.raise .sectionUnknown
  | true => exact cleared.clear (by simp [Causes.required, Causes.put])

end Cfm.DropsOrStands

end Sys2Proof.Machine
end

section
/-! PROOFS. Confidence: the causes with their owners, and what each command asks of CFM (R20 to R23, R62 to R68, R77,
R78, R135 to R139, R146). -/

namespace Sys2Proof.Machine

/-! ## The causes and their owners (R146) -/

/-- NTX's condition for CLASH (R22, R23). -/
def Ntx.clashes (n : Ntx) : Bool := n.state == .muted || (n.state == .sending && n.mutePending)

/-- SGM's condition for SECTION_UNKNOWN (R136). -/
def State.codeUnlisted (s : State) : Bool := (s.sgm.currentCode.map fun p => (s.cfg.sectionOf p).isNone).getD false

/-- The cause set as the owners' conditions give it; LOSSY and VOLT_SUSPECT, which follow SRE's last reports, as they
stand (R146). -/
def State.ownedCauses (s : State) : Causes :=
  { clash := s.ntx.clashes, pilotLost := s.sgm.lost, sectionUnknown := s.codeUnlisted,
    rejoin := s.sgm.rejoinTimer.isSome, lossy := s.cfm.causes.lossy, voltSuspect := s.cfm.causes.voltSuspect,
    overdraw := s.msu.overdraw }

/-- What the laws of the causes read: CFM, and the causes that their owners' conditions give. -/
structure CauseView where
  cfm   : Cfm
  owned : Causes

def State.causeView (s : State) : CauseView := { cfm := s.cfm, owned := s.ownedCauses }

/-- Every cause stands exactly while its owner's condition holds (R146). -/
def CauseView.Follows (v : CauseView) : Prop := v.owned = v.cfm.causes

theorem State.causesFollow_iff (s : State) : s.CausesFollow ↔ s.QuietUnlessReady ∧ s.causeView.Follows := by
  constructor
  · rintro ⟨quiet, clash, pilotLost, rejoin, overdraw, sectionUnknown⟩
    refine ⟨quiet, ?_⟩
    show s.ownedCauses = s.cfm.causes
    rw [ownedCauses, Ntx.clashes, codeUnlisted, ← clash, ← pilotLost, ← rejoin, ← overdraw, ← sectionUnknown]
  · rintro ⟨quiet, follows⟩
    exact ⟨quiet, congrArg Causes.clash follows.symm, congrArg Causes.pilotLost follows.symm,
      congrArg Causes.rejoin follows.symm, congrArg Causes.overdraw follows.symm,
      congrArg Causes.sectionUnknown follows.symm⟩

/-! ## What a command asks of CFM (R21 to R23, R66 to R68, R77, R78, R135 to R139) -/

/-- What an effect other than a publication or a reset can ask of CFM, with the move of the owner's condition: one
raise, one clear, a section change, or a round's reports. -/
inductive CauseView.Asks (v : CauseView) : CauseView → Prop
  | keeps : v.Asks v
  | raises (c : Cause) : v.Asks { cfm := v.cfm.raise c, owned := v.owned.put true c }
  | clears (c : Cause) : v.Asks { cfm := v.cfm.clear c, owned := v.owned.put false c }
  | changesSection (known : Bool) : v.Asks {
      cfm := v.cfm.atSectionChange known,
      owned := ((v.owned.put true .rejoin).put false .pilotLost).put (!known) .sectionUnknown }
  | reports (lossy suspect : Bool) : v.Asks {
      cfm := (v.cfm.report .lossy lossy).report .voltSuspect suspect,
      owned := (v.owned.put lossy .lossy).put suspect .voltSuspect }

namespace CauseView.Asks

variable {v w : CauseView}

theorem sound (asks : v.Asks w) (h : v.cfm.Sound) : w.cfm.Sound := by
  cases asks with
  | keeps => exact h
  | raises c => exact .raise _ c
  | clears c => exact h.clear c
  | changesSection known => exact ((Cfm.Sound.raise _ .rejoin).clear .pilotLost).report ..
  | reports lossy suspect => exact (h.report ..).report ..

theorem dropsOrStands (asks : v.Asks w) : v.cfm.DropsOrStands w.cfm := by
  cases asks with
  | keeps => exact .refl _
  | raises c => exact (Cfm.DropsOrStands.refl _).raise c
  | clears c => exact .stands rfl rfl
  | changesSection known => exact .atSectionChange _ known
  | reports lossy suspect => exact .reports _ lossy suspect

theorem follows (asks : v.Asks w) (h : v.Follows) : w.Follows := by
  unfold Follows at h ⊢
  cases asks with
  | keeps => exact h
  | raises c => rw [h, Cfm.raise_causes]
  | clears c => rw [h]; rfl
  | changesSection known => rw [h, Cfm.atSectionChange, Cfm.report_causes, (Cfm.clear_eq _ _).1, Cfm.raise_causes]
  | reports lossy suspect => rw [h, Cfm.report_causes, Cfm.report_causes]

end CauseView.Asks

/-! ### What leaves CFM and the owners' conditions -/

/-- What SGM's causes read of it. -/
def Sgm.pilotView (g : Sgm) : Option PilotCode × Bool × Timer := (g.currentCode, g.lost, g.rejoinTimer)

/-- The view stands where CFM and what the owners' conditions read stand. -/
theorem State.causeView_congr {s u : State} (cfm : u.cfm = s.cfm) (clashes : u.ntx.clashes = s.ntx.clashes)
    (pilot : u.sgm.pilotView = s.sgm.pilotView) (overdraw : u.msu.overdraw = s.msu.overdraw)
    (cfg : u.cfg = s.cfg) : u.causeView = s.causeView := by
  simp only [Sgm.pilotView, Prod.mk.injEq] at pilot
  obtain ⟨code, lost, rejoin⟩ := pilot
  simp only [causeView, ownedCauses, codeUnlisted, cfm, clashes, code, lost, rejoin, overdraw, cfg]

@[simp] theorem State.settle_causeView (s : State) : s.settle.causeView = s.causeView :=
  causeView_congr (by simp) (by simp) (by simp) (by simp) (by simp)

@[simp] theorem State.redraw_causeView (s : State) (cutArrives : Bool) :
    (s.redraw cutArrives).causeView = s.causeView :=
  causeView_congr (by simp) (by simp) (by simp) (by simp) (by simp)

@[simp] theorem State.enterPsq_causeView (s : State) (st : PsqState) : (s.enterPsq st).causeView = s.causeView :=
  causeView_congr (by simp) (by simp) (by simp) (by simp) (by simp)

/-! ### The gap record (R140 to R143) -/

theorem State.startGapCut_causeView (s : State) : s.startGapCut.causeView = s.causeView := redraw_causeView ..

theorem State.endGapCut_causeView (s : State) : s.endGapCut.causeView = s.causeView := by
  unfold endGapCut
  split
  · exact redraw_causeView ..
  · rfl

theorem State.disarmGap_causeView (s : State) : s.disarmGap.causeView = s.causeView := endGapCut_causeView _

theorem State.gapFrame_causeView (s : State) (metres speed : Nat) :
    (s.gapFrame metres speed).causeView = s.causeView := by
  unfold gapFrame
  split
  · split
    · exact s.disarmGap_causeView
    · rfl
  · exact endGapCut_causeView _

theorem State.countdownRunsOut_causeView (s : State) : s.countdownRunsOut.causeView = s.causeView := by
  unfold countdownRunsOut
  dsimp only
  split
  · exact s.startGapCut_causeView
  · rfl

theorem State.rampStep_causeView (s : State) : s.rampStep.causeView = s.causeView := by
  have judged (u : State) : u.judgeGap.causeView = u.causeView := by
    unfold judgeGap
    split
    · rfl
    · split
      · exact u.startGapCut_causeView
      · rfl
  have handed (u : State) : u.handZero.causeView = u.causeView := by
    unfold handZero
    split
    · exact enterPsq_causeView ..
    · rfl
  have moved : s.rampMoved.causeView = s.causeView := by rw [rampMoved_eq]; rfl
  exact (handed _).trans ((judged s.rampMoved).trans moved)

/-! ### Contact events (R20, R116, R143) -/

/-- The abort of a notice with the mute pending leaves CLASH standing (R20, R22). -/
theorem State.abortNotice_causeView (s : State) : s.abortNotice.causeView = s.causeView := by
  rw [abortNotice_eq]
  split
  · next sending =>
    refine causeView_congr rfl ?_ rfl rfl rfl
    cases pending : s.ntx.mutePending <;> simp [Ntx.clashes, sending, pending]
  · rfl

theorem State.contactLost_causeView (s : State) : s.contactLost.causeView = s.causeView := by
  have moved : s.abortNotice.psqContactLost.causeView = s.abortNotice.causeView :=
    causeView_congr (by simp) (by simp) (by simp) (by simp) (by simp)
  have crossed (g : Sgm) : g.contactLost.pilotView = g.pilotView := by
    unfold Sgm.contactLost
    split <;> rfl
  have gap : s.contactLost.causeView = s.abortNotice.psqContactLost.causeView :=
    causeView_congr rfl rfl (crossed _) rfl rfl
  exact gap.trans (moved.trans s.abortNotice_causeView)

theorem State.contactReturned_causeView (s : State) : s.contactReturned.causeView = s.causeView := by
  have moved : s.psqContactReturned.causeView = s.causeView :=
    causeView_congr (by simp) (by simp) (by simp) (by simp) (by simp)
  unfold contactReturned
  dsimp only
  split
  · exact (disarmGap_causeView _).trans moved
  · exact moved

theorem State.filterEdge_causeView (s : State) (input : FilterId) (level : Bool) :
    (s.filterEdge input level).causeView = s.causeView := by
  cases input with
  | contact =>
    simp only [filterEdge, contactEdge]
    split
    · split
      · exact contactReturned_causeView _
      · exact contactLost_causeView _
    · rfl
  | upLimit => rfl
  | downLimit =>
    show (s.downLimitEdge level).causeView = s.causeView
    exact causeView_congr (by simp) (by simp) (by simp) (by simp) (by simp)

/-! ### Notices (R9 to R14, R18 to R23) -/

/-- An effect's requests to CFM, before the transmitter's choice. -/
def State.Asks (s u : State) : Prop := s.causeView.Asks u.causeView

namespace State.Asks

variable {s u v : State}

theorem of_eq (view : u.causeView = s.causeView) : s.Asks u := by unfold State.Asks; rw [view]; exact .keeps

theorem from_same (asks : u.Asks v) (view : u.causeView = s.causeView) : s.Asks v := by
  unfold State.Asks at asks ⊢; rwa [view] at asks

theorem to_same (asks : s.Asks u) (view : v.causeView = u.causeView) : s.Asks v := by
  unfold State.Asks at asks ⊢; rwa [view]

theorem of_raise (c : Cause) (cfm : u.cfm = s.cfm.raise c) (owned : u.ownedCauses = s.ownedCauses.put true c) :
    s.Asks u := by
  unfold State.Asks State.causeView; rw [cfm, owned]; exact .raises (v := s.causeView) c

theorem of_clear (c : Cause) (cfm : u.cfm = s.cfm.clear c) (owned : u.ownedCauses = s.ownedCauses.put false c) :
    s.Asks u := by
  unfold State.Asks State.causeView; rw [cfm, owned]; exact .clears (v := s.causeView) c

/-- NTX's raise of CLASH, with its condition (R22, R23). -/
theorem of_clash (cfm : u.cfm = s.cfm.raise .clash) (clashes : u.ntx.clashes = true) (sgm : u.sgm = s.sgm)
    (msu : u.msu = s.msu) (cfg : u.cfg = s.cfg) : s.Asks u := by
  refine of_raise .clash cfm ?_
  simp [ownedCauses, codeUnlisted, Causes.put, cfm, clashes, sgm, msu, cfg]

theorem ownDelivery (s : State) (n : Notice) : s.Asks (s.ownDelivery n) := by
  unfold State.ownDelivery
  dsimp only
  split
  · exact of_clash (by simp) (by simp [Ntx.clashes]) (by simp) (by simp) (by simp)
  · next sending =>
    split
    · split <;> exact of_eq rfl
    · exact of_clash (by simp) (by simp [Ntx.clashes, sending]) (by simp) (by simp) (by simp [State.cfg])
  · exact .of_eq rfl
  · exact .of_eq rfl

theorem checkRecord (s : State) (ch : Channel) (bits : List Bool) : s.Asks (s.checkRecord ch bits) := by
  unfold State.checkRecord
  dsimp only
  split
  · exact of_eq rfl
  · split
    · exact ownDelivery ..
    · split
      · exact of_eq rfl
      · split
        · exact ownDelivery ..
        · exact of_eq (causeView_congr (by simp) (by simp) (by simp) (by simp) (by simp))

/-- A decision asks of CFM what its completed record's delivery does; an entry to SYNC only sets the activity flag (R9,
R23). -/
theorem decideSymbol (s : State) (ch : Channel) (d : Symbol) : s.Asks (s.decideSymbol ch d) := by
  have entered (u : State) : (u.syncEntered ch).causeView = u.causeView := by
    unfold State.syncEntered
    split <;> rfl
  unfold State.decideSymbol
  dsimp only
  split
  · split
    · exact of_eq (entered _)
    · exact of_eq rfl
  · split
    · exact of_eq rfl
    · split
      · exact of_eq rfl
      · split <;> exact of_eq rfl
  · split
    · exact of_eq rfl
    · split
      · exact (checkRecord ..).from_same rfl
      · exact of_eq rfl

theorem completeNotice (sending : s.ntx.state = .sending) : s.Asks s.completeNotice := by
  obtain ⟨mutes, hears, misses, fails⟩ := State.completeNotice_cases sending
  cases pending : s.ntx.mutePending with
  | true =>
    rw [mutes pending]
    exact of_eq (causeView_congr rfl (by simp [Ntx.clashes, sending, pending]) rfl rfl rfl)
  | false =>
    cases echo : s.ntx.echoSeen with
    | true =>
      rw [hears pending echo]
      exact of_eq (causeView_congr rfl (by simp [Ntx.clashes, sending, pending]) rfl rfl rfl)
    | false =>
      rcases Nat.eq_zero_or_pos s.ntx.echoFail with first | again
      · rw [misses pending echo first]
        exact of_eq (causeView_congr rfl (by simp [Ntx.clashes, sending, pending]) rfl rfl rfl)
      · rw [fails pending echo again]
        exact of_clash rfl (by simp [Ntx.clashes]) rfl rfl rfl

theorem quietStep (muted : s.ntx.state = .muted) : s.Asks s.quietStep := by
  obtain ⟨active, few, many⟩ := State.quietStep_cases muted
  cases act : s.ntx.activity with
  | true => rw [active act]; exact of_eq rfl
  | false =>
    by_cases short : s.ntx.quiet < 7
    · rw [few act short]; exact of_eq rfl
    · rw [many act (Nat.not_lt.mp short)]
      exact of_clear .clash rfl rfl

theorem noticeExpiry (s : State) : s.Asks s.noticeExpiry := by
  have transmits (u : State) : u.Asks u.ntxExpiry := by
    unfold State.ntxExpiry
    split
    · next idle =>
      split
      · obtain ⟨divider, -, starts⟩ := State.startNotice_eq idle
        rw [starts]
        exact of_eq (causeView_congr rfl (by rw [Ntx.clashes, Ntx.clashes, idle]; rfl) rfl rfl rfl)
      · exact of_eq rfl
    · next muted => exact quietStep muted
    · exact of_eq rfl
    · exact of_eq rfl
  have shares (u : State) : u.sreExpiry.causeView = u.causeView := by rw [State.sreExpiry_eq]; rfl
  exact ((transmits _).to_same (shares _)).from_same rfl

/-! ### Sections and samples (R77, R78, R135 to R139) -/

theorem pilotReturned {p : PilotCode} (current : s.sgm.currentCode = some p) : s.Asks s.pilotReturned := by
  cases lost : s.sgm.lost with
  | false => rw [State.pilotReturned, lost]; exact of_eq rfl
  | true =>
    rw [State.pilotReturned_of_lost current lost]
    exact of_clear .pilotLost rfl rfl

theorem changeSection (s : State) (p : PilotCode) : s.Asks (s.changeSection p) := by
  have view : (s.changeSection p).causeView = (s.sectionChanged p).causeView := by
    rw [State.changeSection_eq]
    split
    · exact State.disarmGap_causeView _
    · rfl
  have owned : (s.sectionChanged p).ownedCauses =
      ((s.ownedCauses.put true .rejoin).put false .pilotLost).put (!(s.cfg.sectionOf p).isSome) .sectionUnknown := by
    simp [ownedCauses, codeUnlisted, sectionChanged, Causes.put, Cfm.atSectionChange, Cfm.report_causes, State.cfg]
  have changed : s.causeView.Asks (s.sectionChanged p).causeView := by
    rw [State.causeView.eq_def (s.sectionChanged p), owned]
    exact .changesSection (s.cfg.sectionOf p).isSome
  exact State.Asks.to_same changed view

theorem windowEnds (s : State) (result : Option PilotCode) : s.Asks (s.windowEnds result) := by
  have yields (u : State) (p : PilotCode) : u.Asks (u.windowCode p) := by
    by_cases same : u.sgm.candidate = some p
    · by_cases second : u.sgm.stability = 2
      · rw [State.windowCode_of_third same second]
        refine from_same (u := { u with sgm := { u.sgm with stability := 3, noneCount := 0 } }) ?_ rfl
        unfold State.establish
        split
        · next current => exact pilotReturned current
        · exact changeSection ..
      · rw [State.windowCode_of_counted same second]; exact of_eq rfl
    · rw [State.windowCode_of_other same]; exact of_eq rfl
  have silent (u : State) : u.Asks u.windowNone := by
    by_cases loses : u.LosesPilot
    · rw [State.windowNone_of_loses loses]
      refine of_raise .pilotLost rfl ?_
      simp [ownedCauses, codeUnlisted, Causes.put, Sgm.silent, State.cfg]
    · rw [State.windowNone_of_not_loses loses]; exact of_eq rfl
  unfold State.windowEnds
  dsimp only
  split
  · exact (yields ..).from_same rfl
  · exact (silent _).from_same rfl

theorem endRejoin (s : State) : s.Asks s.endRejoin := by
  rw [State.endRejoin, State.clearCause_eq]
  exact of_clear .rejoin rfl rfl

theorem judgeRaised (s : State) : s.Asks s.judgeRaised := by
  obtain ⟨draws, within, ends⟩ := s.judgeRaised_cases
  by_cases above : s.overdrawBound < s.msu.iAvg
  · rw [draws above]; exact of_eq rfl
  · by_cases short : elapsed s.now (s.msu.underSince.getD s.now) < 1000
    · rw [within (not_lt.mp above) short]; exact of_eq rfl
    · rw [ends (not_lt.mp above) (not_lt.mp short), State.clearCause_eq]
      exact of_clear .overdraw rfl rfl

theorem judgeClear (s : State) : s.Asks s.judgeClear := by
  obtain ⟨within, draws, begins⟩ := s.judgeClear_cases
  by_cases above : s.overdrawBound < s.msu.iAvg
  · by_cases short : elapsed s.now (s.msu.overSince.getD s.now) < 200
    · rw [draws above short]; exact of_eq rfl
    · rw [begins above (not_lt.mp short), State.raiseCause_eq]
      exact of_raise .overdraw rfl (by simp [ownedCauses, codeUnlisted, Causes.put, State.cfg])
  · rw [within (not_lt.mp above)]; exact of_eq rfl

theorem takeCurrent (s : State) (current : Int) : s.Asks (s.takeCurrent current) := by
  rw [State.takeCurrent_eq]
  dsimp only
  split
  · exact (judgeRaised _).from_same rfl
  · exact (judgeClear _).from_same rfl

end State.Asks

/-! ## What a command's effect does to CFM, said once -/

/-- Everything that a command's effect can do to CFM and to the causes' owners, with the published round count:
requests, the loader's effects, a publication with the reports after it, or a reset. -/
inductive EffectAsks (c : Instr) (s u : State) : Prop
  | asks (published : u.sre.published = s.sre.published) (asks : s.Asks u)
  | loads (touches : touchesCfl c = true) (published : u.sre.published = s.sre.published) (cfm : u.cfm = s.cfm)
  | publishes (completes : c = .roundCompletion) (published : u.sre.published = s.sre.published + 1)
      (lossy suspect : Bool) (view : u.causeView = {
        cfm := ((s.cfm.publication s.cfg.recoveryRounds).report .lossy lossy).report .voltSuspect suspect,
        owned := (s.ownedCauses.put lossy .lossy).put suspect .voltSuspect })
  | reset (isReset : resets c = true) (cfm : u.cfm = .atReset) (follows : u.causeView.Follows)

/-- Where CFM and the owners take reset values that hold no condition but the lost pilot, the causes follow (R145). -/
theorem State.follows_of_atReset {u : State} (cfm : u.cfm = .atReset) (clashes : u.ntx.clashes = false)
    (sgm : u.sgm = .atReset) (overdraw : u.msu.overdraw = false) : u.causeView.Follows := by
  show u.ownedCauses = u.cfm.causes
  rw [ownedCauses, codeUnlisted, cfm, clashes, sgm, overdraw]
  rfl

/-- The reports move LOSSY and VOLT_SUSPECT, which have no condition of their own (R66, R67). -/
theorem State.afterReports_causeView (s : State) (heard : Cfm) (lossy suspect : Bool)
    (causes : heard.causes = s.cfm.causes) : (s.afterReports heard lossy suspect).causeView = {
      cfm := (heard.report .lossy lossy).report .voltSuspect suspect,
      owned := (s.ownedCauses.put lossy .lossy).put suspect .voltSuspect } := by
  simp [causeView, ownedCauses, codeUnlisted, afterReports, Causes.put, Cfm.report_causes, causes, State.cfg]

theorem EffectAsks.roundEnds {s : State} (flight : s.sre.round.isSome = true) :
    EffectAsks .roundCompletion s s.roundEnds := by
  obtain ⟨r, round⟩ := Option.isSome_iff_exists.mp flight
  have ends : s.roundEnds = s.completeRound r := by simp only [State.roundEnds, round]
  rw [ends]
  by_cases holds : s.tagsHold r.tags = true
  · rw [State.completeRound_of_holds holds]
    exact .publishes rfl rfl _ _ (State.afterReports_causeView _ _ _ _ (Cfm.publication_causes ..))
  · rw [State.completeRound_of_not_holds holds]
    refine .asks rfl ?_
    unfold State.Asks
    rw [State.afterReports_causeView _ _ _ _ rfl]
    exact .reports (v := s.causeView) ..

/-- A RESTART frame resets CFM and the owners where it is taken, and leaves them where it is refused (R145, R160). -/
theorem EffectAsks.restart (s : State) (raw : RawInputs) : EffectAsks (.restart raw) s (effectOf (.restart raw) s) := by
  have refused (ty : Byte) (r : RefuseReason) : (s.refuse ty r).causeView = s.causeView :=
    State.causeView_congr (by simp) (by simp) (by simp) (by simp) (by simp)
  rcases State.examine_cases s (fun _ u => u.restartFrame raw) with ⟨-, e⟩ | ⟨ty, -, -, ⟨r, -, e⟩ | ⟨-, -, e⟩⟩ <;>
    rw [effectOf, e]
  · exact .asks rfl (.of_eq rfl)
  · exact .asks (by simp) (.of_eq (refused ..))
  · unfold State.restartFrame
    split
    · exact .reset rfl rfl (State.follows_of_atReset rfl rfl rfl rfl)
    · exact .asks (by simp) (.of_eq (refused ..))

/-- Only a round's completion publishes, and only a RESTART resets the count (R62, R63). -/
theorem effectOf_published {c : Instr} (s : State) (other : c ≠ .roundCompletion) (kept : resets c = false) :
    (effectOf c s).sre.published = s.sre.published := by
  cases touches : touchesSre c with
  | false => rw [effectOf_sre touches]
  | true =>
    cases c <;> simp only [touchesSre, Bool.false_eq_true] at touches
    case roundCompletion => exact absurd rfl other
    case restart => cases kept
    case noticeTimerExpiry =>
      by_cases shares : s.psq.state = .precharge ∨ s.psq.state = .engaged
      · rw [effectOf, (State.noticeExpiry_starts_round shares).2.2]
      · obtain ⟨notPrecharge, notEngaged⟩ := not_or.mp shares
        rw [effectOf, (State.noticeExpiry_zeroes notPrecharge notEngaged).1]

/-- The commands whose effect may change CFM or a block that owns causes. -/
def touchesOwners (c : Instr) : Bool := touchesCfm c || touchesNtx c || touchesSgm c || touchesMsu c

theorem effectOf_causeView {c : Instr} (s : State) (owners : touchesOwners c = false) (image : touchesCfl c = false) :
    (effectOf c s).causeView = s.causeView := by
  simp only [touchesOwners, Bool.or_eq_false_iff, and_assoc] at owners
  obtain ⟨cfm, ntx, sgm, msu⟩ := owners
  exact State.causeView_congr (effectOf_cfm cfm) (by rw [effectOf_ntx ntx]) (by rw [effectOf_sgm sgm])
    (by rw [effectOf_msu msu]) (by rw [State.cfg, effectOf_cfl image]; rfl)

/-- What each command does to CFM and the causes' owners, said once. -/
theorem effectOf_asks {c : Instr} {s : State} (occurs : occursAt c s = true) : EffectAsks c s (effectOf c s) := by
  by_cases completes : c = .roundCompletion
  · subst completes
    exact .roundEnds occurs
  cases isReset : resets c with
  | true =>
    cases c <;> simp only [resets, Bool.false_eq_true] at isReset
    case restart raw => exact .restart s raw
    all_goals simp only [occursAt, Bool.false_eq_true] at occurs
  | false =>
    have published := effectOf_published s completes isReset
    cases image : touchesCfl c with
    | true =>
      refine .loads image published (effectOf_cfm ?_)
      cases c <;> simp only [touchesCfl, Bool.false_eq_true] at image <;> rfl
    | false =>
      refine .asks published ?_
      cases owners : touchesOwners c with
      | false => exact .of_eq (effectOf_causeView s owners image)
      | true =>
        cases c <;> simp only [touchesCfl, touchesOwners, touchesCfm, touchesNtx, touchesSgm, touchesMsu, Bool.or_self,
          Bool.true_eq_false, Bool.false_eq_true] at image owners
        case roundCompletion => exact absurd rfl completes
        case restart => cases isReset
        case noticeTimerExpiry => exact .noticeExpiry s
        case noticeCompletion =>
          simp only [occursAt, Bool.and_eq_true, beq_iff_eq] at occurs
          obtain ⟨⟨sending, -⟩, -⟩ := occurs
          exact .completeNotice sending
        case symbolDecision | syncEntry | frameAbandon | noticeReceived => exact .decideSymbol s ..
        case contactLoss => exact .of_eq (s.filterEdge_causeView .contact false)
        case contactReturn => exact .of_eq (s.filterEdge_causeView .contact true)
        case filterEdge input level => exact .of_eq (s.filterEdge_causeView input level)
        case currentConversionCompletion => exact .takeCurrent s _
        case pilotWindowEnd => exact .windowEnds s _
        case rejoinExpiry => exact .endRejoin s
        case countdownRunOut => exact .of_eq s.countdownRunsOut_causeView
        case graceExpiry => exact .of_eq (s.setSticky .falseGap).disarmGap_causeView
        case rampStep => exact .of_eq s.rampStep_causeView
        case gap =>
          refine .of_eq (State.examine_keeps (P := fun u => u.causeView = s.causeView) (fun _ kept => kept) rfl
            (fun _ _ => ?_) fun payload => State.gapFrame_causeView ..)
          exact State.causeView_congr (by simp) (by simp) (by simp) (by simp) (by simp)
        case voltageConversionCompletion =>
          exact .of_eq (State.causeView_congr (by simp [effectOf]) (by simp [effectOf]) (by simp [effectOf])
            (by rw [effectOf, State.takeVoltage_msu]; rfl) (by simp [effectOf]))
        case restartTimerStart | symbolStrobe | conversionPairStart => exact .of_eq rfl

end Sys2Proof.Machine
end

section
/-! PROOFS. Confidence: every step keeps the level sound and the causes with their owners, and how the level moves
(R146 to R149). -/

namespace Sys2Proof.Machine

/-! ## The level and the causes at every step (R146, R148) -/

/-- Every command's effect keeps the level no less severe than the required level. -/
theorem EffectAsks.sound {c : Instr} {s u : State} (effect : EffectAsks c s u) (h : s.ConfidenceSound) :
    u.ConfidenceSound := by
  show u.cfm.Sound
  cases effect with
  | asks _ asks => exact CauseView.Asks.sound asks h
  | loads _ _ cfm => rw [cfm]; exact h
  | publishes _ _ lossy suspect view =>
    have heard : u.cfm = _ := congrArg CauseView.cfm view
    rw [heard]
    exact ((Cfm.Sound.publication h _).report ..).report ..
  | reset _ cfm => rw [cfm]; exact le_rfl

/-- A part at rest has the reset causes, and its owners hold no condition but the lost pilot (R145, R169). -/
theorem State.AtRest.causesFollow {s : State} (h : s.AtRest) : s.CausesFollow :=
  s.causesFollow_iff.mpr ⟨fun _ => h,
    follows_of_atReset h.cfm (by rw [h.ntx]; rfl) h.sgm (by rw [h.msu]; rfl)⟩

/-- READY puts NTX in IDLE, which is no condition for CLASH (R16, R23). -/
theorem State.AtRest.enterReady_follows {s : State} (h : s.AtRest) : s.enterReady.causeView.Follows := by
  have begun : s.blocksBegun.causeView.Follows := follows_of_atReset h.cfm rfl h.sgm (congrArg Msu.overdraw h.msu)
  rw [State.enterReady_eq]
  split
  · exact begun
  · rw [enterPsq_causeView]; exact begun

/-- The loader's effects find the part at rest, and leave it so or enter READY (R168, R169). -/
theorem loads_follows {c : Instr} {s : State} (h : s.CausesFollow) (occurs : occursAt c s = true)
    (touches : touchesCfl c = true) : (effectOf c s).causeView.Follows := by
  have loading : s.cfl.loader = .loading := by
    cases c <;> simp only [touchesCfl, Bool.false_eq_true] at touches
    case spiReadCompletion | loaderRetryExpiry | ready =>
      simp only [occursAt, Bool.and_eq_true, beq_iff_eq, and_assoc] at occurs
      obtain ⟨loading, -⟩ := occurs
      exact loading
  have rest : s.AtRest := h.quiet (by simp [loading])
  by_cases ready : c = .ready
  · subst ready
    exact rest.enterReady_follows
  · have after := rest.of_effect (by simp [State.isReady, loading]) occurs ready
    exact ((State.causesFollow_iff _).mp after.causesFollow).2

/-- Every command's effect keeps the causes with their owners. -/
theorem effectOf_causesFollow {c : Instr} {s : State} (h : s.CausesFollow) (occurs : occursAt c s = true) :
    (effectOf c s).CausesFollow := by
  have follows := (s.causesFollow_iff.mp h).2
  refine (State.causesFollow_iff _).mpr ⟨effectOf_quietUnlessReady h.quiet occurs, ?_⟩
  cases effectOf_asks occurs with
  | asks _ asks => exact CauseView.Asks.follows asks follows
  | loads touches => exact loads_follows h occurs touches
  | publishes _ _ lossy suspect view =>
    have owned : s.ownedCauses = s.cfm.causes := follows
    rw [view, CauseView.Follows, Cfm.report_causes, Cfm.report_causes, Cfm.publication_causes, owned]
  | reset _ _ follows => exact follows

/-- The transmitter's choice leaves the causes and their owners (R161). -/
theorem State.CausesFollow.settle {s : State} (h : s.CausesFollow) : s.settle.CausesFollow :=
  (State.causesFollow_iff _).mpr ⟨fun unready => (h.quiet (by simpa using unready)).settle, by
    rw [settle_causeView]; exact (s.causesFollow_iff.mp h).2⟩

/-- An idle moment leaves the causes and their owners: of NTX only the divider runs (R3). -/
theorem State.CausesFollow.idle {s : State} (h : s.CausesFollow) : s.idle.CausesFollow := by
  have divided : s.runDivider.causeView = s.causeView := by
    unfold runDivider
    split <;> rfl
  have view : s.idle.causeView = s.causeView := by
    unfold State.idle
    split
    · rfl
    · split
      · exact divided
      · rfl
  exact (State.causesFollow_iff _).mpr ⟨quietUnlessReady_idle h.quiet, by
    rw [view]; exact (s.causesFollow_iff.mp h).2⟩

/-- Settles O59: what an effect asks of CFM keeps the level sound, and moves each cause with its owner's condition. -/
theorem confidenceStaysSound : Obligations.ConfidenceStaysSound := by
  constructor
  · refine kept_of_effects (fun s h => ?_) (fun _ _ h => h) (fun _ _ _ _ => le_rfl) (fun _ _ _ _ => le_rfl)
      (fun c s h _ occurs => ?_)
    · show s.idle.cfm.Sound
      rw [show s.idle.cfm = s.cfm by simp]
      exact h
    · show (effectOf c s).settle.cfm.Sound
      rw [show (effectOf c s).settle.cfm = (effectOf c s).cfm by simp]
      exact (effectOf_asks occurs).sound h
  · exact kept_of_effects (fun _ h => h.idle)
      (fun s _ h => (State.causesFollow_iff _).mpr
        ⟨fun unready => { h.quiet unready with }, (s.causesFollow_iff.mp h).2⟩)
      (fun cause fresh pending _ => (State.AtRest.heldInReset cause fresh pending).causesFollow)
      (fun s raw _ _ => (State.AtRest.atResetEnd s raw).causesFollow)
      (fun _ _ h _ occurs => (effectOf_causesFollow h occurs).settle)

/-! ## How the level moves (R147 to R149) -/

/-- The required level by the causes (R146). -/
theorem Causes.required_eq (set : Causes) : set.required =
    if set.clash ∨ set.pilotLost ∨ set.sectionUnknown ∨ set.rejoin then .solo
    else if set.lossy ∨ set.voltSuspect ∨ set.overdraw then .guarded else .full := by
  simp only [required, Bool.or_eq_true, or_assoc]

/-- Where the required level is the less severe, the step up leads to GUARDED from SOLO and to FULL otherwise (R148). -/
theorem Level.stepUp_eq (level : Level) : level.stepUp = if level = .solo then .guarded else .full := by
  cases level <;> rfl

/-- The law of a command's move from one CFM to another, with whether it publishes a round (R147 to R149). -/
structure Cfm.LevelLaw (m m' : Cfm) (publishes : Prop) (recoveryRounds : Nat) : Prop where
  runEnds : publishes → m.causes.required = m.level → m'.recovery = 0
  rises : m'.level.severity < m.level.severity → publishes ∧ m'.level.severity + 1 = m.level.severity ∧
    m.recovery + 1 = recoveryRounds ∧ m.causes.required.severity < m.level.severity ∧ m'.recovery = 0
  falls : m.level.severity < m'.level.severity → m'.level = m'.causes.required ∧ m'.recovery = 0
  counts : m'.recovery ≠ m.recovery → m'.recovery = 0 ∨
    (publishes ∧ m'.recovery = m.recovery + 1 ∧ m.causes.required.severity < m.level.severity)

/-- Where CFM hears what leaves the level, and then at most drops it, the law holds by the recovery count heard. -/
theorem Cfm.LevelLaw.of_level_stands {m heard m' : Cfm} {publishes : Prop} (after : heard.DropsOrStands m')
    (stood : heard.level = m.level) (runEnds : publishes → m.causes.required = m.level → heard.recovery = 0)
    (counts : heard.recovery ≠ m.recovery → heard.recovery = 0 ∨
      (publishes ∧ heard.recovery = m.recovery + 1 ∧ m.causes.required.severity < m.level.severity)) (n : Nat) :
    m.LevelLaw m' publishes n := by
  cases after with
  | stands level recovery =>
    have same : m'.level = m.level := level.trans stood
    exact {
      runEnds published equal := recovery.trans (runEnds published equal)
      rises less := absurd (same ▸ less) (lt_irrefl _)
      falls more := absurd (same ▸ more) (lt_irrefl _)
      counts moved := by rw [recovery] at moved ⊢; exact counts moved }
  | drops below level recovery =>
    rw [stood] at below
    exact {
      runEnds _ _ := recovery
      rises less := absurd less below.asymm
      falls _ := ⟨level, recovery⟩
      counts _ := .inl recovery }

/-- A publication notice obeys the law, whatever reports drop the level after it (R68, R148). -/
theorem Cfm.LevelLaw.publication {m m' : Cfm} {publishes : Prop} {n : Nat}
    (after : (m.publication n).DropsOrStands m') (published : publishes) : m.LevelLaw m' publishes n := by
  rcases m.publication_cases n with ⟨equal, e⟩ | ⟨below, run, e⟩ | ⟨below, e⟩ | ⟨above, e⟩ <;> rw [e] at after
  · exact .of_level_stands (m := m) after rfl (fun _ _ => rfl) (fun _ => .inl rfl) n
  · have zero : m'.recovery = 0 := by cases after <;> assumption
    have step := Level.stepUp_severity below
    have atMost : m.level.stepUp.severity ≤ m'.level.severity := by
      cases after with
      | stands level => exact (congrArg Level.severity level).ge
      | drops dropped => exact dropped.le
    refine ⟨fun _ _ => zero, fun less => ⟨published, by omega, run, below, zero⟩, fun more => ?_, fun _ => .inl zero⟩
    cases after with
    | stands level =>
      have stepped : m'.level.severity = m.level.stepUp.severity := congrArg Level.severity level
      omega
    | drops _ level => exact ⟨level, zero⟩
  · exact .of_level_stands (m := m) after rfl (fun _ equal => absurd below (by rw [equal]; exact lt_irrefl _))
      (fun _ => .inr ⟨published, rfl, below⟩) n
  · exact .of_level_stands (m := m) after rfl (fun _ equal => absurd above (by rw [equal]; exact lt_irrefl _))
      (fun moved => absurd rfl moved) n

/-- Every command but a reset obeys the law, and only a round's completion publishes (R62, R147 to R149). -/
theorem exec_levelLaw {c : Instr} {s t : State} (hx : exec c s = .next t) (other : resets c = false) :
    s.cfm.LevelLaw t.cfm (t.sre.published = s.sre.published + 1) s.cfg.recoveryRounds ∧
      (t.sre.published = s.sre.published + 1 → c = .roundCompletion) := by
  have unpublished {u : State} (published : u.sre.published = s.sre.published) (moves : s.cfm.DropsOrStands u.cfm) :
      s.cfm.LevelLaw u.cfm (u.sre.published = s.sre.published + 1) s.cfg.recoveryRounds ∧
        (u.sre.published = s.sre.published + 1 → c = .roundCompletion) := by
    have differs : u.sre.published ≠ s.sre.published + 1 := by rw [published]; simp
    exact ⟨.of_level_stands moves rfl (fun publishes => absurd publishes differs) (fun moved => absurd rfl moved) _,
      fun publishes => absurd publishes differs⟩
  rcases exec_answers_or_resets hx with rfl | ⟨reset, -⟩ | ⟨occurs, rfl⟩
  · exact unpublished rfl (.refl _)
  · rw [other] at reset; cases reset
  · have cfm : (effectOf c s).settle.cfm = (effectOf c s).cfm := by simp
    have sre : (effectOf c s).settle.sre = (effectOf c s).sre := by simp
    rw [cfm, sre]
    cases effectOf_asks occurs with
    | asks published asks => exact unpublished published asks.dropsOrStands
    | loads _ published cfm => exact unpublished published (by rw [cfm]; exact .refl _)
    | publishes completes published lossy suspect view =>
      have heard : (effectOf c s).cfm = _ := congrArg CauseView.cfm view
      rw [heard]
      exact ⟨.publication (.reports ..) published, fun _ => completes⟩
    | reset isReset => rw [other] at isReset; cases isReset

/-- Settles O48: a publication notice by its equations, and every command by what its effect asks of CFM. -/
theorem levelMoves : Obligations.LevelMoves := by
  refine ⟨fun m n => ?_, fun c s t hx other => ?_⟩
  · intro required
    rw [← show m.causes.required = required from m.causes.required_eq, ← Level.stepUp_eq]
    exact ⟨fun equal => Cfm.publication_of_equal equal n,
      fun below => ⟨Cfm.publication_steps below, Cfm.publication_counts below⟩⟩
  · obtain ⟨law, completes⟩ := exec_levelLaw hx other
    refine ⟨law.runEnds, fun less => ?_, law.falls, fun moved => ?_⟩
    · obtain ⟨published, rise⟩ := law.rises less
      exact ⟨completes published, published, rise⟩
    · exact (law.counts moved).imp id fun counted => ⟨completes counted.1, counted⟩

end Sys2Proof.Machine
end

section
/-! PROOFS. Bytes, the idle gap, and the checks of a frame at its end (R156, R157, R161, log entries 13, 33). -/

namespace Sys2Proof.Machine

/-! ## The commands of the frame ends (R156, R157) -/

/-- The command of each row at which a frame ends; RESTART brings the raw levels of the inputs (R113). -/
def FrameRow.command (raw : RawInputs) : FrameRow → Instr
  | .demand => .demand
  | .pantoRaise => .pantoRaise
  | .pantoLower => .pantoLower
  | .pantoBadValue => .pantoBadValue
  | .gap => .gap
  | .query => .query
  | .restart => .restart raw
  | .dropped => .frameDropped

/-- A row's command is that row's frame end; the rows differ only in what a frame that passes the checks does. -/
theorem exec_command (row : FrameRow) (raw : RawInputs) (s : State) :
    ∃ act : List Byte → State → State, exec (row.command raw) s = s.frameEnd row act := by
  cases row <;> exact ⟨_, rfl⟩

/-- The row of a sound frame, as the command that its type and request byte name (log entry 13). -/
theorem RxBuffer.row_command {rx : RxBuffer} {ty : Byte} {payload : List Byte} (frame : rx.frame = some (ty, payload))
    (raw : RawInputs) : rx.row.command raw =
      if ty = 17 then .demand
      else if ty = 18 then
        (if payload.head? = some 1 then .pantoRaise else if payload.head? = some 2 then .pantoLower
         else .pantoBadValue)
      else if ty = 19 then .gap else if ty = 20 then .query else if ty = 21 then .restart raw else .frameDropped := by
  simp only [RxBuffer.row, frame, apply_ite (FrameRow.command raw)]
  cases payload.head? with
  | none => rfl
  | some request => simp only [apply_ite (FrameRow.command raw), Option.some.injEq]; rfl

/-- No frame ends on a line that is not idle (R156). -/
theorem exec_command_of_busy {s : State} (busy : ¬s.LineIdle) (row : FrameRow) (raw : RawInputs) :
    exec (row.command raw) s = .next s := by
  obtain ⟨act, answers⟩ := exec_command row raw s
  have waits : s.frameEnds row = false := by
    rw [Bool.eq_false_iff, Ne, State.frameEnds_iff, State.lineIdle_iff]
    exact fun ⟨_, idle, _⟩ => busy idle
  rw [answers, State.frameEnd, State.event_of_not waits]

/-- A sound frame that fails a check is refused under its own row, and the buffer is emptied (R156, R157). -/
theorem exec_command_of_refused {s : State} {ty : Byte} {payload : List Byte} {reason : RefuseReason}
    (running : s.held = false) (idle : s.LineIdle) (frame : s.dlk.rx.frame = some (ty, payload))
    (fails : s.frameRefusal ty payload = some reason) (raw : RawInputs) :
    exec (s.dlk.rx.row.command raw) s = .next (s.refuse ty reason).clearBuffer.settle := by
  obtain ⟨act, answers⟩ := exec_command s.dlk.rx.row raw s
  rw [answers, State.frameEnd, State.event_of_occurs running (State.frameEnds_of idle frame rfl)]
  simp only [State.examine, frame, fails]

/-- A buffer with no sound frame is dropped, counted and emptied (R156, R157). -/
theorem exec_frameDropped_of_no_frame {s : State} (running : s.held = false) (idle : s.LineIdle)
    (unsound : s.dlk.rx.frame = none) (bytes : s.dlk.rx.bytes ≠ []) :
    exec .frameDropped s = .next s.dropFrame.clearBuffer.settle := by
  have occurs : occursAt .frameDropped s = true :=
    (State.frameEnds_iff ..).mpr ⟨bytes, (State.lineIdle_iff s).mpr idle, RxBuffer.row_of_no_frame unsound⟩
  rw [exec_of_occurs rfl running occurs]
  simp only [effectOf, State.examine, unsound]

/-! ## The checks in their order (R157) -/

/-- The types from DEMAND to RESTART each have their length (R157, R174). -/
theorem requiredLength_of_known {ty : Byte} (least : 17 ≤ ty.toNat) (most : ty.toNat ≤ 21) :
    requiredLength ty = some (if ty = 17 then 5 else if ty = 18 then 1 else if ty = 19 then 4 else 0) := by
  have known : ty = 17#8 ∨ ty = 18#8 ∨ ty = 19#8 ∨ ty = 20#8 ∨ ty = 21#8 := by bv_omega
  rcases known with rfl | rfl | rfl | rfl | rfl <;> rfl

/-- Any other type is none that DLK takes (R157). -/
theorem requiredLength_of_unknown {ty : Byte} (unknown : ty.toNat < 17 ∨ 21 < ty.toNat) :
    requiredLength ty = none := by
  have differs (known : Byte) (least : 17 ≤ known.toNat) (most : known.toNat ≤ 21) : ty ≠ known := by
    rintro rfl
    omega
  rw [requiredLength, if_neg (differs _ (by decide) (by decide)), if_neg (differs _ (by decide) (by decide)),
    if_neg (differs _ (by decide) (by decide)), if_neg (differs _ (by decide) (by decide)),
    if_neg (differs _ (by decide) (by decide))]

/-- The fourth check: outside READY any type but QUERY is refused with STATE. -/
theorem State.frameRefusal_state {s : State} {ty : Byte} (unready : s.cfl.loader ≠ .ready) (other : ty ≠ 20)
    (payload : List Byte) : s.frameRefusal ty payload = some .state := by
  have closed : (!s.isReady && ty != typeQuery) = true := by
    simpa [isReady, unready, typeQuery] using other
  rw [frameRefusal, if_pos closed]

/-- A frame in READY, and a QUERY in every loader state, passes the fourth check; the fifth and the sixth are those of
its type's length. -/
theorem State.frameRefusal_of_state_passed {s : State} {ty : Byte} (passed : s.cfl.loader = .ready ∨ ty = 20)
    (payload : List Byte) : s.frameRefusal ty payload = match requiredLength ty with
      | none => some .unknownType
      | some n => if payload.length = n then none else some .badLength := by
  have passes : ¬(!s.isReady && ty != typeQuery) = true := by
    rcases passed with ready | query
    · simp [isReady, ready]
    · simp [typeQuery, query]
  exact if_neg passes

/-- The fifth check: in READY a type that DLK does not take is refused with UNKNOWN_TYPE. -/
theorem State.frameRefusal_unknownType {s : State} {ty : Byte} (ready : s.cfl.loader = .ready)
    (unknown : ty.toNat < 17 ∨ 21 < ty.toNat) (payload : List Byte) :
    s.frameRefusal ty payload = some .unknownType := by
  rw [frameRefusal_of_state_passed (.inl ready), requiredLength_of_unknown unknown]

/-- The sixth check: a payload that has not its type's length is refused with BAD_LENGTH. -/
theorem State.frameRefusal_badLength {s : State} {ty : Byte} {payload : List Byte} {n : Nat}
    (passed : s.cfl.loader = .ready ∨ ty = 20) (known : requiredLength ty = some n) (wrong : payload.length ≠ n) :
    s.frameRefusal ty payload = some .badLength := by
  rw [frameRefusal_of_state_passed passed, known]
  exact if_neg wrong

/-- A frame of its type's length passes the checks in READY, and a QUERY in every loader state. -/
theorem State.frameRefusal_none {s : State} {ty : Byte} {payload : List Byte}
    (passed : s.cfl.loader = .ready ∨ ty = 20) (length : requiredLength ty = some payload.length) :
    s.frameRefusal ty payload = none := by
  rw [frameRefusal_of_state_passed passed, length]
  exact if_pos rfl

/-! ## Bytes (R156) -/

/-- A byte's moment is taken into the buffer in every state outside a reset. -/
theorem exec_byteReceived {s : State} (running : s.held = false) (byte : Byte) (moment : ByteMoment) :
    exec (.byteReceived byte moment) s =
      .next (State.settle { s with dlk := { s.dlk with rx := s.dlk.rx.take byte s.instant moment } }) :=
  exec_of_occurs rfl running rfl

/-- The buffer as every end of a byte leaves it, before the byte joins or is discarded. -/
def RxBuffer.marked (rx : RxBuffer) (wrongStop : Bool) (now : Instant) : RxBuffer :=
  { rx with byteError := rx.byteError || wrongStop, receiving := false, lastEnd := some now }

/-- A byte that finds room joins the buffer. -/
theorem RxBuffer.push_of_room {rx : RxBuffer} (room : rx.bytes.length < 16) (byte : Byte) (wrongStop : Bool)
    (now : Instant) : rx.push byte wrongStop now = { rx.marked wrongStop now with bytes := rx.bytes ++ [byte] } :=
  if_pos room

/-- A byte that finds 16 there is discarded, with the overlong mark. -/
theorem RxBuffer.push_of_full {rx : RxBuffer} (full : 16 ≤ rx.bytes.length) (byte : Byte) (wrongStop : Bool)
    (now : Instant) : rx.push byte wrongStop now = { rx.marked wrongStop now with overlong := true } :=
  if_neg full.not_gt

/-- Settles O49: a busy line, the moments of a byte, then the frame end by the first check that fails. -/
theorem frameReception : Obligations.FrameReception := by
  refine fun s running => ⟨fun raw c busy member => ?_, fun byte wrongStop => ?_, fun idle => ?_⟩
  · have isCommand : ∃ row : FrameRow, c = row.command raw := by
      simp only [List.mem_cons, List.not_mem_nil, or_false] at member
      rcases member with rfl | rfl | rfl | rfl | rfl | rfl | rfl | rfl
      exacts [⟨.demand, rfl⟩, ⟨.pantoRaise, rfl⟩, ⟨.pantoLower, rfl⟩, ⟨.pantoBadValue, rfl⟩, ⟨.gap, rfl⟩,
        ⟨.query, rfl⟩, ⟨.restart, rfl⟩, ⟨.dropped, rfl⟩]
    obtain ⟨row, rfl⟩ := isCommand
    exact exec_command_of_busy busy row raw
  · refine ⟨exec_byteReceived running byte .begins, fun room => ?_, fun full => ?_⟩
    · exact RxBuffer.push_of_room room byte wrongStop s.instant ▸ exec_byteReceived running byte (.ends wrongStop)
    · exact RxBuffer.push_of_full full byte wrongStop s.instant ▸ exec_byteReceived running byte (.ends wrongStop)
  · intro cleared counted refused
    refine ⟨exec_frameDropped_of_no_frame running idle, fun ty payload raw frame => ?_⟩
    intro command length
    have isCommand : s.dlk.rx.row.command raw = command := RxBuffer.row_command frame raw
    have refuses {reason : RefuseReason} (fails : s.frameRefusal ty payload = some reason) :
        exec command s = .next (cleared (refused ty reason)).settle :=
      isCommand ▸ exec_command_of_refused running idle frame fails raw
    exact ⟨fun unready other => refuses (State.frameRefusal_state unready other payload),
      fun ready unknown => refuses (State.frameRefusal_unknownType ready unknown payload),
      fun passed least most wrong =>
        refuses (State.frameRefusal_badLength passed (requiredLength_of_known least most) wrong)⟩

end Sys2Proof.Machine
end

section
/-! PROOFS. DEMAND, QUERY and the silence and stow timers (R121, R155, R158 to R160, log entry 39). -/

namespace Sys2Proof.Machine

/-! ## DEMAND (R158) -/

/-- A class's code is a class value of that class (R6). -/
theorem TruckClass.ofCode_code (cls : TruckClass) : TruckClass.ofCode cls.code = some cls := by
  cases cls <;> rfl

/-- A DEMAND by its payload's bytes: the class value first, then demand and offer of two bytes each (R158, R174). -/
theorem State.demandFrame_eq (s : State) (code d1 d0 o1 o0 : Byte) :
    State.demandFrame [code, d1, d0, o1, o0] s = match TruckClass.ofCode code.toNat with
      | none => s.refuse 17 .badClass
      | some cls => s.takeDemand cls (256 * d1.toNat + d0.toNat) (256 * o1.toNat + o0.toNat) := by
  have cls : slice [code, d1, d0, o1, o0] 0 1 = [code] := rfl
  have demand : slice [code, d1, d0, o1, o0] 1 2 = [d1, d0] := rfl
  have offer : slice [code, d1, d0, o1, o0] 3 2 = [o1, o0] := rfl
  have value : numberOfBytes [code] = code.toNat := by simp [numberOfBytes]
  rw [demandFrame, cls, demand, offer, value, numberOfBytes_pair, numberOfBytes_pair]
  rfl

/-- A DEMAND frame end in READY is the frame's effect and an emptied buffer (R156, R157). -/
theorem exec_demand {s : State} {payload : List Byte} (running : s.held = false) (ready : s.cfl.loader = .ready)
    (idle : s.LineIdle) (frame : s.dlk.rx.frame = some (17, payload)) (length : payload.length = 5) :
    exec .demand s = .next (State.demandFrame payload s).clearBuffer.settle := by
  have isRow := (RxBuffer.row_eq_iff s.dlk.rx .demand).mpr ⟨_, frame, rfl⟩
  rw [exec_of_occurs (c := .demand) rfl running (State.frameEnds_of idle frame isRow), effectOf,
    State.examine_of_accepted ready frame (by rw [length]; rfl)]

/-! ## QUERY (R160) -/

/-- A QUERY frame end asks for STATUS in every loader state (R157, R160). -/
theorem exec_query {s : State} (running : s.held = false) (idle : s.LineIdle)
    (frame : s.dlk.rx.frame = some (20, [])) : exec .query s = .next s.triggerStatus.clearBuffer.settle := by
  have isRow := (RxBuffer.row_eq_iff s.dlk.rx .query).mpr ⟨_, frame, rfl⟩
  have accepted : s.frameRefusal 20 [] = none := State.frameRefusal_none (.inr rfl) rfl
  rw [exec_of_occurs (c := .query) rfl running (State.frameEnds_of idle frame isRow)]
  simp only [effectOf, State.examine, frame, accepted]

/-! ## The silence and stow timers (R121, R159) -/

/-- The stow timer's expiry waits for silence (R159, log entry 39). -/
theorem exec_stowTimerExpiry_of_heard {s : State} (heard : s.dlk.silence = false) :
    exec .stowTimerExpiry s = .next s :=
  exec_of_not_occurs rfl (by simp [occursAt, State.stowExpires, heard])

/-- In silence the stow timer's expiry stands the stow condition (R159). -/
theorem exec_stowTimerExpiry {s : State} {due : Tick} (running : s.held = false) (silent : s.dlk.silence = true)
    (timer : s.dlk.stowTimer = some due) (come : reached s.now due = true) :
    exec .stowTimerExpiry s = .next s.standStow.settle :=
  exec_of_occurs (c := .stowTimerExpiry) rfl running ((State.stowExpires_iff s).mpr ⟨silent, due, timer, come⟩)

/-- Settles O50: DEMAND by its class value, QUERY, and the two expiries, the stow timer's by PSQ's state. -/
theorem demandAndLinkTimers : Obligations.DemandAndLinkTimers := by
  intro s running cleared
  refine ⟨fun code d1 d0 o1 o0 ready idle frame => ?_, exec_query running, fun due timer come => ?_,
    exec_stowTimerExpiry_of_heard, fun due silent timer come => ?_⟩
  · have answers := exec_demand running ready idle frame rfl
    rw [State.demandFrame_eq] at answers
    refine ⟨fun above => ?_, fun cls value => ?_⟩
    · have noClass : TruckClass.ofCode code.toNat = none := by
        rw [← Option.not_isSome_iff_eq_none, TruckClass.ofCode_isSome_iff]
        omega
      rw [answers, noClass]
      rfl
    · rw [answers, ← value, TruckClass.ofCode_code]
      rfl
  · exact exec_of_occurs (c := .silenceTimerExpiry) rfl running ((Timer.due_iff ..).mpr ⟨due, timer, come⟩)
  · have answers := exec_stowTimerExpiry running silent timer come
    intro standing cutting
    refine ⟨fun other => ?_, fun engaged => ?_⟩
    · rw [answers, State.standStow, if_neg other]
    · rw [answers, State.standStow, if_pos engaged, State.enterCutting_eq]
      rfl

end Sys2Proof.Machine
end

section
/-! PROOFS. Held resets, and the loader: the commands that a held reset takes, the checks and outcomes of a read, and the
image and the rest of the blocks at every step (R167 to R171, log entries 3 and 30). -/

namespace Sys2Proof.Machine

/-! ## A held reset (R170) -/

/-- While a reset is held, a command that is neither a held reset nor its end changes nothing (log entry 3). -/
theorem exec_of_held {c : Instr} {s : State} (held : s.held = true) (other : holdsReset c = false) :
    exec c s = .next s := by
  rw [exec_eq_event c s other, State.event_of_held held]

/-- Settles O3: no time passes on an empty queue, and every command but the three is an event. -/
theorem heldResetTakesOnlyResets : Obligations.HeldResetTakesOnlyResets := by
  refine fun s held => ⟨fun empty => ?_, fun c notPowerOn notPinReset notResetEnd => ?_⟩
  · simp only [step, empty, State.idle, held, if_true]
  · refine exec_of_held held ?_
    cases c with
    | powerOn => exact absurd rfl notPowerOn
    | pinReset dip => exact absurd rfl (notPinReset dip)
    | resetEnd raw => exact absurd rfl (notResetEnd raw)
    | _ => rfl

/-! ## The loaded image (R167 to R169) -/

namespace State.ImageSound

variable {s u : State}

/-- What CFL alone holds decides whether the image is sound. -/
theorem congr (h : s.ImageSound) (cfl : u.cfl = s.cfl) : u.ImageSound := by
  obtain ⟨valid, ready, waiting, reader, halted⟩ := h
  rw [← cfl] at valid ready waiting reader halted
  exact ⟨valid, ready, waiting, reader, halted⟩

/-- A loader without an image, in LOADING, that reads the block or not (R167). -/
theorem of_atReset {reading : Bool} (cfl : u.cfl = { Cfl.atReset with reading := reading }) : u.ImageSound := by
  constructor <;> simp [cfl, Cfl.atReset]

/-- While a read is in progress or a retry is awaited there is no image yet (R167). -/
theorem image_none (h : s.ImageSound) (busy : ¬(s.cfl.reading = false ∧ s.cfl.retryTimer = none)) :
    s.cfl.image = none := by
  simpa using mt h.waiting busy

/-- In LOADING no reason for a halt stands (R169). -/
theorem noReason (h : s.ImageSound) (loading : s.cfl.loader = .loading) : s.cfl.haltReason = .noReason := by
  by_contra reason
  have halted := h.halted.mpr reason
  rw [loading] at halted
  cases halted

/-- A read's outcome leaves an image only where its checks passed (R168). -/
theorem judgeBlock (h : s.ImageSound) (loading : s.cfl.loader = .loading) (reads : s.cfl.reading = true)
    (block : List Byte) : (s.judgeBlock block).ImageSound := by
  have image := h.image_none (by simp [reads])
  have retry := h.reader reads
  have reason := h.noReason loading
  unfold State.judgeBlock State.halt
  dsimp only
  split
  · split
    · next passed => constructor <;> simp [loading, reason, retry, passed]
    · constructor <;> simp [image]
  · split
    · constructor <;> simp [image]
    · constructor <;> simp [image, loading, reason]

/-- The second read starts where no image stands (R167). -/
theorem retryRead (h : s.ImageSound) {due : Tick} (awaited : s.cfl.retryTimer = some due) :
    State.ImageSound { s with cfl := { s.cfl with retryTimer := none, reading := true } } where
  valid := h.valid
  ready := h.ready
  waiting loaded := by simp [h.image_none (by simp [awaited])] at loaded
  reader _ := rfl
  halted := h.halted

/-- READY takes the image that stands (R168). -/
theorem enterReady (h : s.ImageSound) (loading : s.cfl.loader = .loading) (loaded : s.cfl.image.isSome = true) :
    s.enterReady.ImageSound := by
  have cfl := s.enterReady_cfl
  exact {
    valid := by rw [cfl]; exact h.valid
    ready := fun _ => by rw [cfl]; exact loaded
    waiting := by rw [cfl]; exact h.waiting
    reader := by rw [cfl]; exact h.reader
    halted := by simp [cfl, h.noReason loading] }

end State.ImageSound

/-- Every command's effect keeps a loaded image sound: CFL changes only where a read ends, is retried, or READY
comes. -/
theorem effectOf_imageSound {c : Instr} {s : State} (h : s.ImageSound) (occurs : occursAt c s = true) :
    (effectOf c s).ImageSound := by
  cases touches : touchesCfl c with
  | false => exact h.congr (effectOf_cfl touches)
  | true =>
    cases c <;> simp only [touchesCfl, Bool.false_eq_true] at touches <;>
      simp only [occursAt, Bool.and_eq_true, beq_iff_eq] at occurs
    case spiReadCompletion block =>
      obtain ⟨⟨loading, reads⟩, -⟩ := occurs
      exact h.judgeBlock loading reads block
    case loaderRetryExpiry =>
      obtain ⟨due, awaited, -⟩ := (Timer.due_iff ..).mp occurs.2
      exact h.retryRead awaited
    case ready =>
      obtain ⟨⟨loading, loaded⟩, -⟩ := occurs
      exact h.enterReady loading loaded

/-- Every step keeps a loaded image sound (R167, R168). -/
theorem imageSound_kept : KeptByEveryStep State.ImageSound :=
  kept_of_effects (fun _ h => h.congr (by simp)) (fun _ _ h => h.congr rfl) (fun _ _ _ _ => .of_atReset rfl)
    (fun _ _ _ _ => .of_atReset rfl) (fun _ _ h _ occurs => (effectOf_imageSound h occurs).congr (by simp))

/-- Settles O57: the rest of the blocks, and the loaded image. -/
theorem partRestsUntilReady : Obligations.PartRestsUntilReady :=
  fun s t ⟨quiet, image⟩ stepped => ⟨quietUnlessReady_kept s t quiet stepped, imageSound_kept s t image stepped⟩

/-! ## The loader's checks (R167, R168, Section 11.3) -/

theorem inRange_iff (lo hi n : Nat) : inRange lo hi n = true ↔ lo ≤ n ∧ n ≤ hi := by
  simp [inRange]

theorem isFilterClock_iff (n : Nat) : isFilterClock n = true ↔ n = 1 ∨ n = 4 ∨ n = 16 := by
  simp [isFilterClock, or_assoc]

theorem SectionRecord.valid_iff (r : SectionRecord) : r.valid = true ↔
    r.pilot ≤ 7 ∧ (50 ≤ r.capacity ∧ r.capacity ≤ 2000) ∧ r.reserve ≤ 200 ∧ r.accept ≤ 100 ∧ r.absorb ≤ 100 := by
  simp only [SectionRecord.valid, Bool.and_eq_true, inRange_iff, Nat.zero_le, true_and, and_assoc]

/-- The section table's checks: its count, its records' ranges, and no pilot code twice (R168). -/
theorem Image.sectionsValid_iff (i : Image) : i.sectionsValid = true ↔
    (1 ≤ i.sectionCount ∧ i.sectionCount ≤ 8) ∧
    (∀ r ∈ i.sections, r.pilot ≤ 7 ∧ (50 ≤ r.capacity ∧ r.capacity ≤ 2000) ∧ r.reserve ≤ 200 ∧ r.accept ≤ 100 ∧
      r.absorb ≤ 100) ∧
    i.sections.Pairwise (fun r other => r.pilot ≠ other.pilot) := by
  simp only [Image.sectionsValid, Bool.and_eq_true, inRange_iff, List.all_eq_true, SectionRecord.valid_iff,
    decide_eq_true_eq, List.Nodup, List.pairwise_map, and_assoc]

/-- The check of a block of 112 bytes: its last two bytes against the first 110 (R167). -/
theorem blockCrcAgrees_iff {block : List Byte} (length : block.length = 112) :
    blockCrcAgrees block = true ↔ (crcOfBytes (block.take 110)).toNat = numberOfBytes (block.drop 110) := by
  have last : slice block 110 2 = block.drop 110 := List.take_of_length_le (by simp [length])
  rw [blockCrcAgrees, blockField, last, beq_iff_eq]

/-- A completed read, while one is in progress, is judged (R167, R168). -/
theorem exec_spiReadCompletion {s : State} (running : s.held = false) (loading : s.cfl.loader = .loading)
    (reads : s.cfl.reading = true) {block : List Byte} (length : block.length = 112) :
    exec (.spiReadCompletion block) s = .next (s.judgeBlock block).settle :=
  exec_of_occurs (c := .spiReadCompletion block) rfl running
    (by simp [occursAt, loading, reads, length, blockLength])

/-- Settles O7: the loader's checks by their groups, a read by its four outcomes, and the retry. -/
theorem loaderJudgesTheBlock : Obligations.LoaderJudgesTheBlock := by
  refine ⟨fun i => ?_, fun s running loading => ⟨fun block reads length => ?_, fun due awaited run => ?_⟩⟩
  · intro clock within
    simp only [Image.valid, Image.ordered, Image.fieldsInRange, Bool.and_eq_true, decide_eq_true_eq, inRange_iff,
      isFilterClock_iff, Image.sectionsValid_iff, Nat.zero_le, true_and, clock, within]
    -- The model groups the same conditions by orderings, ranges and sections.
    exact iff_of_eq (by ac_rfl)
  · intro agrees halted
    have answers := exec_spiReadCompletion running loading reads length
    have check : blockCrcAgrees block = true ↔ agrees := blockCrcAgrees_iff length
    rw [answers]
    simp only [State.judgeBlock, check]
    refine ⟨fun agreed passed => ?_, fun agreed failed => ?_, fun differs again => ?_, fun differs first => ?_⟩
    · obtain ⟨even, soon⟩ := s.tmb.strobe_next
      exact ⟨s.tmb.strobe, by rw [if_pos agreed, if_pos passed], even, soon⟩
    · rw [if_pos agreed, if_neg (by simp [failed])]
      rfl
    · rw [if_neg differs, if_pos again]
      rfl
    · rw [if_neg differs, if_neg (by simp [first])]
      rfl
  · have occurs : occursAt .loaderRetryExpiry s = true := by simp [occursAt, loading, awaited, Timer.due, run]
    exact exec_of_occurs rfl running occurs

end Sys2Proof.Machine
end

section
/-! PROOFS. The queue, and the part right after reset: what a command leaves of the queue, and the laws that hold before
the first step (R170, log entry 1). -/

namespace Sys2Proof.Machine

/-! ## The queue (log entry 1) -/

/-- No command touches the queue: a held reset and its end keep it, and neither an effect nor the transmitter's choice
changes it. -/
theorem exec_pending {c : Instr} {s t : State} (answers : exec c s = .next t) : t.pending = s.pending := by
  rcases exec_answers answers with rfl | ⟨cause, -, rfl⟩ | ⟨-, raw, rfl⟩ | ⟨-, -, rfl⟩
  · rfl
  · exact State.heldInReset_pending ..
  · rfl
  · calc (effectOf c s).settle.pending
        = (effectOf c s).pending := by simp
      _ = s.pending := effectOf_pending c s

/-- Settles O1: a step reads the front of the queue, and `exec_pending` gives the rest. -/
theorem stepTakesTheFrontCommand : Obligations.StepTakesTheFrontCommand :=
  fun _ _ _ => ⟨rfl, fun _ answers => exec_pending answers⟩

/-! ## The part right after reset (R170) -/

/-- The part right after reset is one that a supervisor holds in reset, so its blocks rest (R169, R170). -/
theorem State.reset_atRest : State.reset.AtRest := .heldInReset .powerOn 0 []

/-- Settles O53: the laws of the outputs from the held reset, those of the blocks' values from the rest of the part,
and the others from each block at its reset values. -/
theorem lawsHoldAtReset : Obligations.LawsHoldAtReset := by
  have rest := State.reset_atRest
  have quiet : State.reset.QuietUnlessReady := fun _ => rest
  have outputs : State.reset.OutputsSound := heldInReset_outputsSound ..
  have reference : State.reset.ReferenceFollows := .of_atReset rfl rfl rfl rfl
  have image : State.reset.ImageSound := .of_atReset rfl
  have table : State.reset.TableSound := .of_atReset rfl
  have confidence : State.reset.ConfidenceSound := le_rfl
  have rings : State.reset.RingsSound := .of_atReset rfl rfl rfl rfl
  have pairs : State.reset.PairsTimely := .of_idle rfl
  have arcRing : State.reset.ArcRingSound := .of_empty rfl
  have link : State.reset.LinkSound := .of_atReset rfl (by decide)
  exact ⟨outputs.1, outputs.2, reference.bounded, reference, .of_atRest rest, quiet, image, table, confidence,
    rest.causesFollow, rings, pairs, arcRing, link, .of_atRest rest⟩

end Sys2Proof.Machine
end
